-- ==== Sys2Proof/Word.lean ====
section
/-! DEFINITION. The engine's value widths (00_scope.md R5, R6): every value is an unsigned bit vector of fixed width. -/

namespace Sys2Proof

/-- One byte of a block (R7). -/
abbrev Byte := BitVec 8

/-- One word of the key state (R21). -/
abbrev Word16 := BitVec 16

/-- One word of the cipher state, and the width of a command word (R5). -/
abbrev Word32 := BitVec 32

/-- A value of GF(2^64), and the width of the length counters (R5, R130). -/
abbrev Word64 := BitVec 64

/-- A 128-bit block, byte 0 most significant (R5, R7). -/
abbrev Block := BitVec 128

end Sys2Proof
end

