-- ==== Sys2Proof/Syntax.lean ====
section
/-! DEFINITION. The commands: one constructor per row of spec/opcode_table.json (30_encoding.md R76), the direction field of
START (R73) and the error codes a command can be rejected with (60_exceptions.md R211). -/

namespace Sys2Proof

/-- The direction of a session: DIR = 0 is encryption, DIR = 1 is decryption (10_state.md R29, 30_encoding.md R73). -/
inductive Dir where
  | encrypt
  | decrypt
deriving DecidableEq, Repr

/-- The values ERR_CODE takes (60_exceptions.md R211); values 5 to 15 are never written. -/
inductive ErrCode where
  /-- 0: no error recorded. -/
  | noError
  /-- 1: cmd[7:0] is unassigned. -/
  | illegalOpcode
  /-- 2: a reserved bit, RCNT or DIR breaks R72 to R74. -/
  | badField
  /-- 3: not legal in the current FSM state. -/
  | badState
  /-- 4: TAG in a decryption, VERIFY in an encryption session. -/
  | wrongDir
deriving DecidableEq, Repr

/-- A decoded command (30_encoding.md R76). RCNT and DIR are the only fields any of them carries (R70). -/
inductive Instr where
  | nop
  | clrerr
  | abort
  | rderr
  | ldkey
  | ldlen
  | rdlen
  | bcinit
  | bcperm (rcnt : BitVec 6)
  | rds
  | rdw
  | ldl
  | rdl
  | mul2
  | mul3
  | fbg
  | start (dir : Dir)
  | ad
  | msg
  | tag
  | verify
deriving DecidableEq, Repr

end Sys2Proof
end

