-- ==== Sys2Proof/WellFormed.lean ====
section
/-! DEFINITION. Which commands are well formed: the operand limits of 30_encoding.md R72. -/

namespace Sys2Proof

/-- The one operand limit of the command set: the round count of BCPERM is 0..40 (30_encoding.md R72). -/
def Instr.wellFormed : Instr → Bool
  | .bcperm rcnt => decide (rcnt ≤ 40#6)
  | _ => true

end Sys2Proof
end

