-- ==== Sys2Proof/Decode.lean ====
section
/-! DEFINITION. The command word (30_encoding.md): its fields, the opcode map, the decoder with its two rejections
(60_exceptions.md R210, checks 1 and 2), and the encoder written from R80 and R76. -/

namespace Sys2Proof

/-- OPC = cmd[7:0] (R70, R71). -/
def opcField (w : Word32) : BitVec 8 := w.extractLsb' 0 8

/-- RCNT = cmd[13:8] (R70, R72). -/
def rcntField (w : Word32) : BitVec 6 := w.extractLsb' 8 6

/-- DIR = cmd[14] (R70, R73). -/
def dirField (w : Word32) : BitVec 1 := w.extractLsb' 14 1

/-- RSV = cmd[31:15] (R70, R74). -/
def rsvField (w : Word32) : BitVec 17 := w.extractLsb' 15 17

/-- The bit that stands for a direction: 0 = encrypt, 1 = decrypt (R73). -/
def dirBit : Dir → BitVec 1
  | .encrypt => 0#1
  | .decrypt => 1#1

/-- The direction a bit stands for (R73). -/
def dirOfBit (b : BitVec 1) : Dir := if b = 0#1 then .encrypt else .decrypt

/-- One row of the opcode map: an OPC value and the command it selects, given the RCNT and DIR fields. -/
abbrev OpcodeRow := BitVec 8 × (BitVec 6 → BitVec 1 → Instr)

/-- The opcode map (R76), in the table's order. -/
def opcodeMap : List OpcodeRow :=
  [ (0x00#8, fun _ _ => .nop),
    (0x01#8, fun _ _ => .clrerr),
    (0x02#8, fun _ _ => .abort),
    (0x03#8, fun _ _ => .rderr),
    (0x08#8, fun _ _ => .ldkey),
    (0x09#8, fun _ _ => .ldlen),
    (0x0A#8, fun _ _ => .rdlen),
    (0x10#8, fun _ _ => .bcinit),
    (0x11#8, fun rcnt _ => .bcperm rcnt),
    (0x12#8, fun _ _ => .rds),
    (0x13#8, fun _ _ => .rdw),
    (0x20#8, fun _ _ => .ldl),
    (0x21#8, fun _ _ => .rdl),
    (0x22#8, fun _ _ => .mul2),
    (0x23#8, fun _ _ => .mul3),
    (0x30#8, fun _ _ => .fbg),
    (0x40#8, fun _ dirb => .start (dirOfBit dirb)),
    (0x41#8, fun _ _ => .ad),
    (0x42#8, fun _ _ => .msg),
    (0x43#8, fun _ _ => .tag),
    (0x44#8, fun _ _ => .verify) ]

/-- The command an OPC value selects; none for the 235 unassigned values (R71, R76, R77). -/
def lookupOpcode (opc : BitVec 8) (rcnt : BitVec 6) (dirb : BitVec 1) : Option Instr :=
  (opcodeMap.find? (fun row => row.1 == opc)).map (fun row => row.2 rcnt dirb)

/-- RCNT is 0 outside BCPERM, and at most 40 in BCPERM (R72). -/
def rcntLegal (i : Instr) (rcnt : BitVec 6) : Bool :=
  match i with
  | .bcperm _ => decide (rcnt ≤ 40#6)
  | _ => decide (rcnt = 0#6)

/-- DIR is 0 outside START (R73). -/
def dirLegal (i : Instr) (dirb : BitVec 1) : Bool :=
  match i with
  | .start _ => true
  | _ => decide (dirb = 0#1)

/-- The decoder: checks 1 and 2 of 60_exceptions.md R210, in that order. Total on every word (R77). -/
def decode (w : Word32) : Except ErrCode Instr :=
  match lookupOpcode (opcField w) (rcntField w) (dirField w) with
  | none => .error .illegalOpcode
  | some i =>
    if decide (rsvField w = 0#17) && rcntLegal i (rcntField w) && dirLegal i (dirField w) then .ok i
    else .error .badField

/-- The OPC value of a command (R76). -/
def opcode : Instr → BitVec 8
  | .nop => 0x00#8
  | .clrerr => 0x01#8
  | .abort => 0x02#8
  | .rderr => 0x03#8
  | .ldkey => 0x08#8
  | .ldlen => 0x09#8
  | .rdlen => 0x0A#8
  | .bcinit => 0x10#8
  | .bcperm _ => 0x11#8
  | .rds => 0x12#8
  | .rdw => 0x13#8
  | .ldl => 0x20#8
  | .rdl => 0x21#8
  | .mul2 => 0x22#8
  | .mul3 => 0x23#8
  | .fbg => 0x30#8
  | .start _ => 0x40#8
  | .ad => 0x41#8
  | .msg => 0x42#8
  | .tag => 0x43#8
  | .verify => 0x44#8

/-- The RCNT field a command is assembled with (R72). -/
def rcntOf : Instr → BitVec 6
  | .bcperm rcnt => rcnt
  | _ => 0#6

/-- The DIR field a command is assembled with (R73). -/
def dirOf : Instr → BitVec 1
  | .start dir => dirBit dir
  | _ => 0#1

/-- The command word of a command: OPC | (RCNT << 8) | (DIR << 14) (R80). -/
def encode (i : Instr) : Word32 :=
  (opcode i).setWidth 32 ||| ((rcntOf i).setWidth 32 <<< 8) ||| ((dirOf i).setWidth 32 <<< 14)

/-- What the decoder reads from a command word given as the number w of its nbits bits (bit 0 least significant; bits above
nbits are 0). A command word travels whole on the 32-bit cmd port (R51), so it has no byte layout to undo. -/
def decodeTableWord (nbits w : Nat) : Option Instr :=
  (decode (BitVec.ofNat 32 (w % 2 ^ nbits))).toOption

end Sys2Proof
end

