-- ==== Sys2Proof/Config.lean ====
section
/-! DEFINITION. What an implementation fixes: the OPEN latency parameters of 70_reset_and_hazards.md R238 (00_scope.md R5).
The tables RC and PT, which R5 also calls configuration tables, have values in the spec: they are in Machine/Tables.lean. -/

namespace Sys2Proof.Config

/-- The latency parameters of R238, in clock edges. Plain data, so that a machine with any latencies is a value of State and
every statement over all states is a statement over all latencies. An entry a list does not hold counts as 1, and every
value is read as at least 1 (Machine.latency). DEDUCED (R239): the two final-block parameters may differ with the public
number of mask multiplications, so each is a list; R238's single number is the case of equal entries (log 4). -/
structure Latency where
  /-- LAT_CTRL. -/
  ctrl : Nat
  /-- LAT_BCPERM(R): the entry at index R. -/
  bcperm : List Nat
  /-- LAT_START. -/
  start : Nat
  /-- LAT_AD_INT. -/
  adInt : Nat
  /-- LAT_AD_FIN: the entry at index k is for k + 1 mask multiplications (R160). -/
  adFin : List Nat
  /-- LAT_MSG_INT. -/
  msgInt : Nat
  /-- LAT_MSG_FIN: the entry at index k is for k + 1 mask multiplications (R163). -/
  msgFin : List Nat
  /-- LAT_TAG. -/
  tag : Nat
  /-- LAT_VERIFY. -/
  verify : Nat
  /-- LAT_REJECT. -/
  reject : Nat
deriving DecidableEq, Repr

/-- Every command completes at its accepting edge. DESIGN CHOICE (log 3), unsafe: the spec leaves the latencies OPEN; this is
what State.reset holds, and no statement rests on it. -/
def Latency.oneEdge : Latency where
  ctrl := 1
  bcperm := List.replicate 41 1
  start := 1
  adInt := 1
  adFin := List.replicate 4 1
  msgInt := 1
  msgFin := List.replicate 2 1
  tag := 1
  verify := 1
  reject := 1

end Sys2Proof.Config
end

