-- ==== Sys2Proof/Machine/State.lean ====
section
/-! DEFINITION. The engine's state as plain data (10_state.md): the tuple of R38, the command being executed (R53, R237), the
OPEN latencies (R238) and the host's pending moves (R242); the reasons a step can stop; the state after reset (R231). -/

namespace Sys2Proof.Machine

/-- Four 32-bit words, word 0 most significant: the shape of S and Y (10_state.md R20, R23). -/
structure Words4 where
  w0 : Word32
  w1 : Word32
  w2 : Word32
  w3 : Word32
deriving DecidableEq, Repr

/-- Eight 16-bit words, word 0 most significant: the shape of W (10_state.md R21). -/
structure KeyWords where
  k0 : Word16
  k1 : Word16
  k2 : Word16
  k3 : Word16
  k4 : Word16
  k5 : Word16
  k6 : Word16
  k7 : Word16
deriving DecidableEq, Repr

/-- The two words of the mask L: L[0] is the high half (10_state.md R24). -/
structure MaskWords where
  hi : Word32
  lo : Word32
deriving DecidableEq, Repr

/-- The block cipher's own state: the source's CipherState, `cipher` and `key` (10_state.md R20, R21). -/
structure CipherState where
  s : Words4
  w : KeyWords
deriving DecidableEq, Repr

/-- The states of the COFB state machine (10_state.md R28, 43_cofb_fsm.md R150). Values 6 and 7 are never written. -/
inductive Fsm where
  | init
  | adIntermediate
  | adFinal
  | msgIntermediate
  | msgFinal
  | tag
deriving DecidableEq, Repr

/-- One thing the host does at the ports (70_reset_and_hazards.md R242). The host obeys R235: a command is held until accepted. -/
inductive HostMove where
  /-- cmd_valid = 1 with this cmd and din, held until the engine accepts (R52, R235). -/
  | command (cmd : Word32) (din : Block)
  /-- cmd_valid = 0 and rst = 0 for one edge. -/
  | idle
  /-- rst = 1 for one edge (R230). -/
  | reset
deriving DecidableEq, Repr

/-- Everything the engine holds, and what the host is about to do. -/
structure State where
  /-- S[0..3], the cipher state (R20). -/
  sReg : Words4
  /-- W[0..7], the key state (R21). -/
  wReg : KeyWords
  /-- KEY (R22). -/
  key : Block
  /-- Y[0..3], the COFB running state (R23). -/
  yReg : Words4
  /-- L[0..1], the COFB mask (R24). -/
  lReg : MaskWords
  /-- DLEN, in bytes (R25). -/
  dlen : Word64
  /-- MLEN, in bytes (R25). -/
  mlen : Word64
  /-- AD_REM, in bytes (R26). -/
  adRem : Word64
  /-- MSG_REM, in bytes (R26). -/
  msgRem : Word64
  /-- DOUT (R27). -/
  dout : Block
  /-- FSM (R28). -/
  fsm : Fsm
  /-- DIR (R29). -/
  dir : Dir
  /-- AUTH_DONE (R30). -/
  authDone : Bool
  /-- AUTH_OK (R30). -/
  authOk : Bool
  /-- ERR (R31). -/
  err : Bool
  /-- ERR_CODE (R31, R211). -/
  errCode : ErrCode
  /-- ERR_CMD (R31). -/
  errCmd : Word32
  /-- BUSY (R32). -/
  busy : Bool
  /-- The command word sampled at the accepting edge (20_memory.md R53); 0 between commands (log 5). -/
  cmd : Word32
  /-- The din operand sampled at the accepting edge (R53); 0 between commands (log 5). -/
  din : Block
  /-- Clock edges left until the running command completes (R237); 0 between commands (log 5). -/
  wait : Nat
  /-- The OPEN latency parameters (R238); no step writes them (log 3). -/
  lat : Config.Latency
  /-- What the host does at the coming edges, the next first; when empty it goes on idling (log 2). -/
  host : List HostMove
deriving DecidableEq, Repr

/-- Why the model stops. Neither is reached from reset: both lie outside the invariants of 43_cofb_fsm.md R170 (log 7). -/
inductive Fault where
  /-- Raised by AD in AD_INTERMEDIATE and MSG in MSG_INTERMEDIATE when the length counter is below 16: the subtraction of R159
  or R162 would go below 0, which R170 says never happens, and the spec gives no result. Safe: the model stops. -/
  | lengthUnderflow
  /-- Raised by AD in AD_FINAL and MSG in MSG_FINAL when the length counter is above 16: R151 and R152 define pad and trunc for
  r in 0..16 only, and R170 says r is in that range. Safe: the model stops. -/
  | padRange
deriving DecidableEq, Repr

/-- Why the model has no meaning for a command. -/
inductive Refusal where
  /-- Raised by exec's arm for a command that has no meaning yet; no arm raises it. Safe: the model stops. -/
  | notModelled (mnemonic : String)
deriving DecidableEq, Repr

/-- What a step or a command's meaning answers. -/
abbrev Result := Host.Outcome State Fault Refusal

/-- Four zero words. -/
def Words4.zero : Words4 := ⟨0#32, 0#32, 0#32, 0#32⟩

/-- Eight zero words. -/
def KeyWords.zero : KeyWords := ⟨0#16, 0#16, 0#16, 0#16, 0#16, 0#16, 0#16, 0#16⟩

/-- The zero mask. -/
def MaskWords.zero : MaskWords := ⟨0#32, 0#32⟩

/-- The machine right after reset: every register 0, FSM = INIT (70_reset_and_hazards.md R231, 10_state.md section 4). The
latencies and the host's moves are the model's own fields: DESIGN CHOICE (log 3, log 11). -/
def State.reset : State where
  sReg := Words4.zero
  wReg := KeyWords.zero
  key := 0#128
  yReg := Words4.zero
  lReg := MaskWords.zero
  dlen := 0#64
  mlen := 0#64
  adRem := 0#64
  msgRem := 0#64
  dout := 0#128
  fsm := .init
  dir := .encrypt
  authDone := false
  authOk := false
  err := false
  errCode := .noError
  errCmd := 0#32
  busy := false
  cmd := 0#32
  din := 0#128
  wait := 0
  lat := Config.Latency.oneEdge
  host := []

end Sys2Proof.Machine
end

