-- ==== Sys2Proof/Machine/Views.lean ====
section
/-! DEFINITION. The byte and word views of a block (00_scope.md R7, R8; 20_memory.md R55, R56), padding and truncation
(43_cofb_fsm.md R151, R152). -/

namespace Sys2Proof.Machine

/-- byte(B, i) = B[127-8i : 120-8i], for i in 0..15: byte 0 is the most significant (R7). -/
def byteOf (b : Block) (i : Nat) : Byte := b.extractLsb' (120 - 8 * i) 8

/-- The block whose bytes are b 0 to b 15, byte 0 most significant: b0 ‖ b1 ‖ ... ‖ b15 (R7). -/
def joinBytes (b : Nat → Byte) : Block :=
  b 0 ++ b 1 ++ b 2 ++ b 3 ++ b 4 ++ b 5 ++ b 6 ++ b 7 ++ b 8 ++ b 9 ++ b 10 ++ b 11 ++ b 12 ++ b 13 ++ b 14 ++ b 15

/-- w32(B, i) = B[127-32i : 96-32i] (R8). -/
def w32 (b : Block) (i : Nat) : Word32 := b.extractLsb' (96 - 32 * i) 32

/-- w16(B, i) = B[127-16i : 112-16i] (R8). -/
def w16 (b : Block) (i : Nat) : Word16 := b.extractLsb' (112 - 16 * i) 16

/-- The four 32-bit words of a block (R8, R56). -/
def split32 (b : Block) : Words4 := ⟨w32 b 0, w32 b 1, w32 b 2, w32 b 3⟩

/-- join32: word 0 most significant (R8). -/
def join32 (x : Words4) : Block := x.w0 ++ x.w1 ++ x.w2 ++ x.w3

/-- The eight 16-bit words of a block (R8, R56). -/
def split16 (b : Block) : KeyWords := ⟨w16 b 0, w16 b 1, w16 b 2, w16 b 3, w16 b 4, w16 b 5, w16 b 6, w16 b 7⟩

/-- join16: word 0 most significant (R8). -/
def join16 (x : KeyWords) : Block := x.k0 ++ x.k1 ++ x.k2 ++ x.k3 ++ x.k4 ++ x.k5 ++ x.k6 ++ x.k7

/-- B[127:64]. -/
def highHalf (b : Block) : Word64 := b.extractLsb' 64 64

/-- B[63:0]. -/
def lowHalf (b : Block) : Word64 := b.extractLsb' 0 64

/-- Lv = L[0] ‖ L[1] (10_state.md R24, 41_field_doubling.md R130). -/
def maskValue (l : MaskWords) : Word64 := l.hi ++ l.lo

/-- Writing a 64-bit value into L: L[0] takes v[63:32], L[1] takes v[31:0] (R130). -/
def maskWords (v : Word64) : MaskWords := ⟨v.extractLsb' 32 32, v.extractLsb' 0 32⟩

/-- v ‖ 0^64: a 64-bit value in the high half of a block (R153, R135). -/
def inHighHalf (v : Word64) : Block := v ++ 0#64

/-- pad(B, r): bytes below r, then 0x80, then zeros (R151). -/
def pad (b : Block) (r : Nat) : Block :=
  joinBytes (fun i => if i < r then byteOf b i else if i = r then 0x80#8 else 0x00#8)

/-- trunc(B, r): bytes below r, then zeros (R152). -/
def trunc (b : Block) (r : Nat) : Block :=
  joinBytes (fun i => if i < r then byteOf b i else 0x00#8)

end Sys2Proof.Machine
end

