-- ==== Sys2Proof/Machine/Operands.lean ====
section
/-! DEFINITION. How each command reads its din operand (30_encoding.md R75). din is the value sampled at the accepting edge
(20_memory.md R53). A command whose operand is `ignored` calls none of these. -/

namespace Sys2Proof.Machine

/-- `block`: din whole, byte 0 in din[127:120]. -/
def blockOperand (s : State) : Block := s.din

/-- `key`: as `block`. -/
def keyOperand (s : State) : Block := s.din

/-- `tag`: as `block`. -/
def tagOperand (s : State) : Block := s.din

/-- `lengths`: dlen = din[127:64]. -/
def dlenOperand (s : State) : Word64 := highHalf s.din

/-- `lengths`: mlen = din[63:0]. -/
def mlenOperand (s : State) : Word64 := lowHalf s.din

/-- `mask`: din[127:64]; din[63:0] is ignored. -/
def maskOperand (s : State) : Word64 := highHalf s.din

/-- `partial block` that is padded: lanes 0..r-1 of din, then the padding of R151. -/
def paddedOperand (r : Nat) (s : State) : Block := pad s.din r

end Sys2Proof.Machine
end

