-- ==== Sys2Proof/Machine/Tables.lean ====
section
/-! DEFINITION. The constant tables RC and PT (10_state.md R37, 40_gift128.md R100, R102). UNVERIFIED (log 9): the spec marks
both tables as general knowledge that only the official test vectors can confirm. -/

namespace Sys2Proof.Machine

/-- RC[0..39] (R100), RC[0] first. -/
def roundConstants : List (BitVec 6) :=
  [ 0x01#6, 0x03#6, 0x07#6, 0x0F#6, 0x1F#6, 0x3E#6, 0x3D#6, 0x3B#6, 0x37#6, 0x2F#6,
    0x1E#6, 0x3C#6, 0x39#6, 0x33#6, 0x27#6, 0x0E#6, 0x1D#6, 0x3A#6, 0x35#6, 0x2B#6,
    0x16#6, 0x2C#6, 0x18#6, 0x30#6, 0x21#6, 0x02#6, 0x05#6, 0x0B#6, 0x17#6, 0x2E#6,
    0x1C#6, 0x38#6, 0x31#6, 0x23#6, 0x06#6, 0x0D#6, 0x1B#6, 0x36#6, 0x2D#6, 0x1A#6 ]

/-- RC[r]. No command runs a round r above 39 (R72, R111); the table has no entry there and 0 is read (log 13). -/
def roundConstant (r : Nat) : BitVec 6 := roundConstants.getD r 0#6

/-- PT[0][0..31] (R102): the destination of each source bit of cipher word 0. -/
def permTable0 : List Nat :=
  [ 0, 24, 16, 8, 1, 25, 17, 9, 2, 26, 18, 10, 3, 27, 19, 11,
    4, 28, 20, 12, 5, 29, 21, 13, 6, 30, 22, 14, 7, 31, 23, 15 ]

/-- PT[1][0..31] (R102). -/
def permTable1 : List Nat :=
  [ 8, 0, 24, 16, 9, 1, 25, 17, 10, 2, 26, 18, 11, 3, 27, 19,
    12, 4, 28, 20, 13, 5, 29, 21, 14, 6, 30, 22, 15, 7, 31, 23 ]

/-- PT[2][0..31] (R102). -/
def permTable2 : List Nat :=
  [ 16, 8, 0, 24, 17, 9, 1, 25, 18, 10, 2, 26, 19, 11, 3, 27,
    20, 12, 4, 28, 21, 13, 5, 29, 22, 14, 6, 30, 23, 15, 7, 31 ]

/-- PT[3][0..31] (R102). -/
def permTable3 : List Nat :=
  [ 24, 16, 8, 0, 25, 17, 9, 1, 26, 18, 10, 2, 27, 19, 11, 3,
    28, 20, 12, 4, 29, 21, 13, 5, 30, 22, 14, 6, 31, 23, 15, 7 ]

/-- ROUNDS, the production round count (00_scope.md R5). -/
def productionRounds : Nat := 40

end Sys2Proof.Machine
end

