-- ==== Sys2Proof/Machine/Cipher.lean ====
section
/-! DEFINITION. BlockCipher: GIFT-128 in bitsliced form (40_gift128.md R104 to R112), as functions of a CipherState. -/

namespace Sys2Proof.Machine

/-- initialize(block, key) (R104). -/
def initCipher (block key : Block) : CipherState := ⟨split32 block, split16 key⟩

/-- SubCells (R105): each line of the rule, on the values the lines before it left; c0 and c3 are swapped at the end. -/
def subCells (x : Words4) : Words4 :=
  let c1 := x.w1 ^^^ (x.w0 &&& x.w2)
  let c0 := x.w0 ^^^ (c1 &&& x.w3)
  let c2 := x.w2 ^^^ (c0 ||| c1)
  let c3 := x.w3 ^^^ c2
  let c1 := c1 ^^^ c3
  let c3 := ~~~c3
  let c2 := c2 ^^^ (c0 &&& c1)
  ⟨c3, c1, c2, c0⟩

/-- One word of PermBits: t[table[i]] <- x[i] for i from `i` on, t starting at 0 (R103, R107). -/
def permWordFrom (x : Word32) : Nat → List Nat → Word32 → Word32
  | _, [], t => t
  | i, dest :: table, t => permWordFrom x (i + 1) table (t ||| (((x >>> i) &&& 1#32) <<< dest))

/-- One word of PermBits by one table (R107): source bit i goes to bit table[i]. -/
def permWord (table : List Nat) (x : Word32) : Word32 := permWordFrom x 0 table 0#32

/-- PermBits (R107). -/
def permBits (x : Words4) : Words4 :=
  ⟨permWord permTable0 x.w0, permWord permTable1 x.w1, permWord permTable2 x.w2, permWord permTable3 x.w3⟩

/-- Two 16-bit words as one 32-bit word: (zext_32(a) << 16) | zext_32(b) (R108). -/
def pair16 (a b : Word16) : Word32 := (a.setWidth 32 <<< 16) ||| b.setWidth 32

/-- AddRoundKey&Constant for round r (R108); the fixed 1 is bit 31 of word 3 (90_conflicts.md C1). -/
def addRoundKey (r : Nat) (w : KeyWords) (x : Words4) : Words4 :=
  ⟨x.w0,
   x.w1 ^^^ pair16 w.k6 w.k7,
   x.w2 ^^^ pair16 w.k2 w.k3,
   x.w3 ^^^ (0x80000000#32 ||| (roundConstant r).setWidth 32)⟩

/-- KeyUpdate (R109): W[6] and W[7] are read before the shift. -/
def keyUpdate (w : KeyWords) : KeyWords :=
  ⟨w.k6.rotateRight 2, w.k7.rotateRight 12, w.k0, w.k1, w.k2, w.k3, w.k4, w.k5⟩

/-- Round(r) (R110): AddRoundKey&Constant uses the key state from before this round's KeyUpdate. -/
def round (r : Nat) (c : CipherState) : CipherState :=
  ⟨addRoundKey r c.w (permBits (subCells c.s)), keyUpdate c.w⟩

/-- n rounds, the first with index r. -/
def roundsFrom : Nat → Nat → CipherState → CipherState
  | _, 0, c => c
  | r, n + 1, c => roundsFrom (r + 1) n (round r c)

/-- permute<n>: rounds 0 to n-1 in order (R111). -/
def permute (n : Nat) (c : CipherState) : CipherState := roundsFrom 0 n c

/-- The cipher state after initialize(x, key) and permute<40> (R112). -/
def encipher (key x : Block) : CipherState := permute productionRounds (initCipher x key)

/-- E_K(X) (R112). -/
def blockCipher (key x : Block) : Block := join32 (encipher key x).s

end Sys2Proof.Machine
end

