-- ==== Sys2Proof/Machine/Field.lean ====
section
/-! DEFINITION. FieldDoubling and Feedback as functions: multiplication by alpha and alpha+1 in GF(2^64) (41_field_doubling.md
R131, R132), the G map (42_feedback.md R140), masking and the final mask schedules (43_cofb_fsm.md R153, R160, R163). -/

namespace Sys2Proof.Machine

/-- mul_alpha (R131): shift left by one, dropping bit 63, and add 0x1B when bit 63 was 1. -/
def mulAlpha (v : Word64) : Word64 := (v <<< 1) ^^^ (if v.getLsbD 63 then 0x1B#64 else 0#64)

/-- mul_alpha_plus_1 (R132). -/
def mulAlphaPlus1 (v : Word64) : Word64 := mulAlpha v ^^^ v

/-- The G map (R140): Y[63:0] ‖ rotl_64(Y[127:64], 1). -/
def feedback (y : Block) : Block := lowHalf y ++ (highHalf y).rotateLeft 1

/-- The masked block X = B ^ G(Yv) ^ (Lv ‖ 0^64) (R153). -/
def maskedBlock (b y : Block) (v : Word64) : Block := b ^^^ feedback y ^^^ inHighHalf v

/-- The mask of a final block with r data bytes: one mul_alpha_plus_1 for a full block, two otherwise (R160, R163). -/
def finalBlockMask (r : Nat) (v : Word64) : Word64 :=
  if r = 16 then mulAlphaPlus1 v else mulAlphaPlus1 (mulAlphaPlus1 v)

/-- The final-AD mask schedule (R160): two further mul_alpha_plus_1 when no message follows. -/
def finalAdMask (r : Nat) (msgRem : Word64) (v : Word64) : Word64 :=
  if msgRem = 0#64 then mulAlphaPlus1 (mulAlphaPlus1 (finalBlockMask r v)) else finalBlockMask r v

/-- How many mul_alpha_plus_1 steps finalBlockMask takes: a public number (70_reset_and_hazards.md R239). -/
def finalBlockSteps (r : Nat) : Nat := if r = 16 then 1 else 2

/-- How many mul_alpha_plus_1 steps finalAdMask takes: 1, 2, 3 or 4 (R160, R239). -/
def finalAdSteps (r : Nat) (msgRem : Word64) : Nat :=
  if msgRem = 0#64 then finalBlockSteps r + 2 else finalBlockSteps r

end Sys2Proof.Machine
end

