-- ==== Sys2Proof/Machine/Flags.lean ====
section
/-! DEFINITION. The flags: the codes of FSM and ERR_CODE, the STATUS word (10_state.md R33), the output ports (20_memory.md R51,
R54; 70_reset_and_hazards.md R236), the next FSM state of a session (43_cofb_fsm.md R158 to R163) and the legality of a command
in a state (60_exceptions.md R220, R221). -/

namespace Sys2Proof.Machine

/-- The 3-bit encoding of FSM (10_state.md R28). -/
def fsmCode : Fsm → BitVec 3
  | .init => 0#3
  | .adIntermediate => 1#3
  | .adFinal => 2#3
  | .msgIntermediate => 3#3
  | .msgFinal => 4#3
  | .tag => 5#3

/-- The 4-bit value of ERR_CODE (60_exceptions.md R211). -/
def errCodeBits : ErrCode → BitVec 4
  | .noError => 0#4
  | .illegalOpcode => 1#4
  | .badField => 2#4
  | .badState => 3#4
  | .wrongDir => 4#4

/-- STATUS = zext_32(ERR_CODE ‖ ERR ‖ AUTH_OK ‖ AUTH_DONE ‖ DIR ‖ FSM ‖ BUSY) (R33). -/
def status (s : State) : Word32 :=
  (errCodeBits s.errCode ++ BitVec.ofBool s.err ++ BitVec.ofBool s.authOk ++ BitVec.ofBool s.authDone ++ dirBit s.dir
    ++ fsmCode s.fsm ++ BitVec.ofBool s.busy).setWidth 32

/-- What the dout port shows: DOUT, and no value while BUSY = 1 (R54, R236). -/
def doutPort (s : State) : Option Block := if s.busy then none else some s.dout

/-- What bit i of the status port shows: STATUS, and while BUSY = 1 no value but bit 0, which is 1 (R54, R236). -/
def statusBit (s : State) (i : Nat) : Option Bool :=
  if s.busy then (if i = 0 then some true else none) else some ((status s).getLsbD i)

/-- Does the host drive rst = 1 at the coming edge? -/
def rstIn (s : State) : Bool :=
  match s.host with
  | .reset :: _ => true
  | _ => false

/-- cmd_ready = ~BUSY & ~rst (R51). -/
def cmdReady (s : State) : Bool := !s.busy && !rstIn s

/-- The AD state for a remaining AD length (R158, R159). -/
def adPhase (rem : Word64) : Fsm := if rem > 16#64 then .adIntermediate else .adFinal

/-- The message state for a remaining, nonzero message length (R161, R162). -/
def msgPhase (rem : Word64) : Fsm := if rem > 16#64 then .msgIntermediate else .msgFinal

/-- The state after the final AD block (R161). -/
def afterAd (msgRem : Word64) : Fsm := if msgRem = 0#64 then .tag else msgPhase msgRem

/-- The legality table of 60_exceptions.md R220. -/
def legalIn (i : Instr) (f : Fsm) : Bool :=
  match i with
  | .nop | .clrerr | .abort | .rderr | .rdlen | .fbg => true
  | .ldkey | .ldlen | .bcinit | .bcperm _ | .rds | .rdw | .ldl | .rdl | .mul2 | .mul3 => decide (f = .init)
  | .start _ => decide (f = .init)
  | .ad => decide (f = .adIntermediate ∨ f = .adFinal)
  | .msg => decide (f = .msgIntermediate ∨ f = .msgFinal)
  | .tag => decide (f = .tag)
  | .verify => decide (f = .tag)

/-- The direction check of R221: TAG wants DIR = 0, VERIFY wants DIR = 1. -/
def dirAgrees (i : Instr) (d : Dir) : Bool :=
  match i with
  | .tag => decide (d = .encrypt)
  | .verify => decide (d = .decrypt)
  | _ => true

end Sys2Proof.Machine
end

