-- ==== Sys2Proof/Machine/Ops.lean ====
section
/-! DEFINITION. The named operations over the engine's registers: register writes, the shared session steps (absorb, scrub), and
the rejection of a command (60_exceptions.md R210 to R213), which is this engine's only exception. The engine has no memory
(20_memory.md R50), so there is no operation over memory. -/

namespace Sys2Proof.Machine

/-- S and W <- c. -/
def writeCipher (c : CipherState) (s : State) : State := { s with sReg := c.s, wReg := c.w }

/-- KEY <- k. -/
def writeKey (k : Block) (s : State) : State := { s with key := k }

/-- Y <- x. -/
def writeY (x : Words4) (s : State) : State := { s with yReg := x }

/-- L[0] <- v[63:32]; L[1] <- v[31:0] (41_field_doubling.md R130). -/
def writeMask (v : Word64) (s : State) : State := { s with lReg := maskWords v }

/-- DLEN <- d; MLEN <- m. -/
def writeLengths (d m : Word64) (s : State) : State := { s with dlen := d, mlen := m }

/-- AD_REM <- a. -/
def writeAdRem (a : Word64) (s : State) : State := { s with adRem := a }

/-- MSG_REM <- m. -/
def writeMsgRem (m : Word64) (s : State) : State := { s with msgRem := m }

/-- DOUT <- d. -/
def writeDout (d : Block) (s : State) : State := { s with dout := d }

/-- FSM <- f. -/
def writeFsm (f : Fsm) (s : State) : State := { s with fsm := f }

/-- DIR <- d. -/
def writeDir (d : Dir) (s : State) : State := { s with dir := d }

/-- AUTH_DONE <- done; AUTH_OK <- ok. -/
def writeAuth (done ok : Bool) (s : State) : State := { s with authDone := done, authOk := ok }

/-- ERR, ERR_CODE, ERR_CMD <- the given record. -/
def writeError (e : Bool) (c : ErrCode) (w : Word32) (s : State) : State := { s with err := e, errCode := c, errCmd := w }

/-- Yv, the 128-bit value of Y (10_state.md R23). -/
def yValue (s : State) : Block := join32 s.yReg

/-- Lv, the 64-bit value of L (10_state.md R24). -/
def lValue (s : State) : Word64 := maskValue s.lReg

/-- absorb(X) (43_cofb_fsm.md R154): initialize with (X, KEY), permute<40>, Y <- S. -/
def absorb (x : Block) (s : State) : State :=
  writeY (encipher s.key x).s (writeCipher (encipher s.key x) s)

/-- Masks block b with the new mask v and the Y from before this command, and absorbs it; v is written to L (R153, R159 to R163). -/
def absorbMasked (b : Block) (v : Word64) (s : State) : State :=
  absorb (maskedBlock b (yValue s) v) (writeMask v s)

/-- scrub() (R165). -/
def scrub (s : State) : State :=
  writeMsgRem 0#64 (writeAdRem 0#64 (writeMask 0#64 (writeY Words4.zero (writeCipher ⟨Words4.zero, KeyWords.zero⟩ s))))

/-- The rejection of the command being executed (60_exceptions.md R212, R213): the first error since the last CLRERR or reset is
recorded, with the command word; nothing else changes. -/
def reject (c : ErrCode) (s : State) : State := if s.err then s else writeError true c s.cmd s

/-- Checks 2 (the operand limit of R72), 3 and 4 of R210 for a decoded command: the error of the first that fails. -/
def failedCheck (i : Instr) (s : State) : Option ErrCode :=
  if !i.wellFormed then some .badField
  else if !legalIn i s.fsm then some .badState
  else if !dirAgrees i s.dir then some .wrongDir
  else none

/-- A command runs its effect when it passes the checks, and is rejected otherwise (R210). -/
def checked (i : Instr) (s : State) (effect : Result) : Result :=
  match failedCheck i s with
  | some c => .next (reject c s)
  | none => effect

end Sys2Proof.Machine
end

