-- ==== Sys2Proof/Machine/AeadCore.lean ====
section
/-! DEFINITION. The COFB state machine (43_cofb_fsm.md): LDLEN, RDLEN, START, AD, MSG, TAG. -/

namespace Sys2Proof.Machine

/-- LDLEN (R156): DLEN <- din[127:64]; MLEN <- din[63:0]. -/
def execLdlen (s : State) : Result := checked .ldlen s (.next (writeLengths (dlenOperand s) (mlenOperand s) s))

/-- RDLEN (R157): DOUT <- AD_REM ‖ MSG_REM. -/
def execRdlen (s : State) : Result := checked .rdlen s (.next (writeDout (s.adRem ++ s.msgRem) s))

/-- Y <- E_K(N), then L <- the first two words of Y (R158; the HIGH half of Y, 90_conflicts.md C2). -/
def seedSession (nonce : Block) (s : State) : State :=
  writeMask (highHalf (yValue (absorb nonce s))) (absorb nonce s)

/-- The effect of START (R158). -/
def startSession (dir : Dir) (s : State) : State :=
  writeFsm (adPhase s.dlen) (writeMsgRem s.mlen (writeAdRem s.dlen
    (seedSession (blockOperand s) (writeAuth false false (writeDir dir s)))))

/-- START (R158). -/
def execStart (dir : Dir) (s : State) : Result := checked (.start dir) s (.next (startSession dir s))

/-- The effect of AD in AD_INTERMEDIATE (R159). -/
def absorbAd (s : State) : State :=
  writeFsm (adPhase (s.adRem - 16#64)) (writeAdRem (s.adRem - 16#64)
    (absorbMasked (blockOperand s) (mulAlpha (lValue s)) s))

/-- The effect of AD in AD_FINAL with r = AD_REM (R160, R161). -/
def absorbFinalAd (r : Nat) (s : State) : State :=
  writeFsm (afterAd s.msgRem) (writeAdRem 0#64
    (absorbMasked (paddedOperand r s) (finalAdMask r s.msgRem (lValue s)) s))

/-- AD in AD_INTERMEDIATE. A counter below 16, which R170 excludes, has no result in the spec (log 7). -/
def runAd (s : State) : Result :=
  if s.adRem < 16#64 then .fault .lengthUnderflow else .next (absorbAd s)

/-- AD in AD_FINAL. A count above 16, which R170 excludes, has no padding in the spec (log 7). -/
def runFinalAd (s : State) : Result :=
  if s.adRem > 16#64 then .fault .padRange else .next (absorbFinalAd s.adRem.toNat s)

/-- AD (R159, R161). -/
def execAd (s : State) : Result :=
  checked .ad s (if s.fsm = .adIntermediate then runAd s else runFinalAd s)

/-- The plaintext of a full message block: din, or din ^ Yv in decryption (R162). -/
def fullPlaintext (s : State) : Block :=
  match s.dir with
  | .encrypt => blockOperand s
  | .decrypt => blockOperand s ^^^ yValue s

/-- The effect of MSG in MSG_INTERMEDIATE (R162): the output is din ^ Yv in both directions, and the plaintext is masked. -/
def absorbMsg (s : State) : State :=
  writeFsm (msgPhase (s.msgRem - 16#64)) (writeMsgRem (s.msgRem - 16#64)
    (absorbMasked (fullPlaintext s) (mulAlpha (lValue s)) (writeDout (blockOperand s ^^^ yValue s) s)))

/-- The padded plaintext of a final message block with r bytes (R163). -/
def finalPlaintext (r : Nat) (s : State) : Block :=
  match s.dir with
  | .encrypt => paddedOperand r s
  | .decrypt => pad (trunc (blockOperand s ^^^ yValue s) r) r

/-- The output of a final message block with r bytes (R163). -/
def finalOutput (r : Nat) (s : State) : Block :=
  match s.dir with
  | .encrypt => trunc (paddedOperand r s ^^^ yValue s) r
  | .decrypt => trunc (blockOperand s ^^^ yValue s) r

/-- The effect of MSG in MSG_FINAL with r = MSG_REM (R163). -/
def absorbFinalMsg (r : Nat) (s : State) : State :=
  writeFsm .tag (writeMsgRem 0#64
    (absorbMasked (finalPlaintext r s) (finalBlockMask r (lValue s)) (writeDout (finalOutput r s) s)))

/-- MSG in MSG_INTERMEDIATE. A counter below 16, which R170 excludes, has no result in the spec (log 7). -/
def runMsg (s : State) : Result :=
  if s.msgRem < 16#64 then .fault .lengthUnderflow else .next (absorbMsg s)

/-- MSG in MSG_FINAL. A count above 16, which R170 excludes, has no padding in the spec (log 7). -/
def runFinalMsg (s : State) : Result :=
  if s.msgRem > 16#64 then .fault .padRange else .next (absorbFinalMsg s.msgRem.toNat s)

/-- MSG (R162, R163). -/
def execMsg (s : State) : Result :=
  checked .msg s (if s.fsm = .msgIntermediate then runMsg s else runFinalMsg s)

/-- TAG (R164): DOUT <- Yv; scrub; FSM <- INIT. -/
def execTag (s : State) : Result := checked .tag s (.next (writeFsm .init (scrub (writeDout (yValue s) s))))

end Sys2Proof.Machine
end

