-- ==== Sys2Proof/Machine/BlockCipher.lean ====
section
/-! DEFINITION. The commands that expose the block cipher (40_gift128.md section 4): LDKEY, BCINIT, BCPERM, RDS, RDW. -/

namespace Sys2Proof.Machine

/-- LDKEY (R114): KEY <- din. -/
def execLdkey (s : State) : Result := checked .ldkey s (.next (writeKey (keyOperand s) s))

/-- BCINIT (R115): initialize(din, KEY). -/
def execBcinit (s : State) : Result := checked .bcinit s (.next (writeCipher (initCipher (blockOperand s) s.key) s))

/-- BCPERM R (R116): permute<R> on S and W. -/
def execBcperm (rcnt : BitVec 6) (s : State) : Result :=
  checked (.bcperm rcnt) s (.next (writeCipher (permute rcnt.toNat ⟨s.sReg, s.wReg⟩) s))

/-- RDS (R117): DOUT <- join32(S). -/
def execRds (s : State) : Result := checked .rds s (.next (writeDout (join32 s.sReg) s))

/-- RDW (R118): DOUT <- join16(W). -/
def execRdw (s : State) : Result := checked .rdw s (.next (writeDout (join16 s.wReg) s))

end Sys2Proof.Machine
end

