-- ==== Sys2Proof/Machine/Control.lean ====
section
/-! DEFINITION. The control commands (45_control.md): NOP, CLRERR, ABORT, RDERR. -/

namespace Sys2Proof.Machine

/-- NOP (R200). -/
def execNop (s : State) : Result := checked .nop s (.next s)

/-- CLRERR (R201): ERR <- 0; ERR_CODE <- 0; ERR_CMD <- 0. -/
def execClrerr (s : State) : Result := checked .clrerr s (.next (writeError false .noError 0#32 s))

/-- ABORT (R202): scrub, DOUT <- 0, FSM <- INIT. -/
def execAbort (s : State) : Result := checked .abort s (.next (writeFsm .init (writeDout 0#128 (scrub s))))

/-- RDERR (R203): DOUT <- zext_128(ERR_CMD). -/
def execRderr (s : State) : Result := checked .rderr s (.next (writeDout (s.errCmd.setWidth 128) s))

end Sys2Proof.Machine
end

