-- ==== Sys2Proof/Machine/FeedbackMap.lean ====
section
/-! DEFINITION. The command that exposes the feedback map (42_feedback.md): FBG. -/

namespace Sys2Proof.Machine

/-- FBG (R142): DOUT <- G(din). -/
def execFbg (s : State) : Result := checked .fbg s (.next (writeDout (feedback (blockOperand s)) s))

end Sys2Proof.Machine
end

