-- ==== Sys2Proof/Machine/FieldDoubling.lean ====
section
/-! DEFINITION. The commands that expose the field doubler (41_field_doubling.md section 2): LDL, RDL, MUL2, MUL3. -/

namespace Sys2Proof.Machine

/-- LDL (R134): L <- din[127:64]. -/
def execLdl (s : State) : Result := checked .ldl s (.next (writeMask (maskOperand s) s))

/-- RDL (R135): DOUT <- L[0] ‖ L[1] ‖ 0^64. -/
def execRdl (s : State) : Result := checked .rdl s (.next (writeDout (inHighHalf (lValue s)) s))

/-- MUL2 (R136): L <- mul_alpha(L). -/
def execMul2 (s : State) : Result := checked .mul2 s (.next (writeMask (mulAlpha (lValue s)) s))

/-- MUL3 (R137): L <- mul_alpha_plus_1(L). -/
def execMul3 (s : State) : Result := checked .mul3 s (.next (writeMask (mulAlphaPlus1 (lValue s)) s))

end Sys2Proof.Machine
end

