-- ==== Sys2Proof/Machine/VerifyDecrypt.lean ====
section
/-! DEFINITION. The constant-time tag verifier (44_tag_verify.md): ct_equal and VERIFY. -/

namespace Sys2Proof.Machine

/-- The accumulator of ct_equal (R191): acc | (byte(T, i) ^ byte(T', i)) for every i in 0..15, never stopping early. -/
def ctAccumulate (t t' : Block) : Byte :=
  (List.range 16).foldl (fun acc i => acc ||| (byteOf t i ^^^ byteOf t' i)) 0x00#8

/-- ct_equal(T, T') (R191). -/
def ctEqual (t t' : Block) : Bool := decide (ctAccumulate t t' = 0x00#8)

/-- VERIFY (R190): AUTH_OK <- ct_equal(din, Yv); AUTH_DONE <- 1; DOUT <- 0; scrub; FSM <- INIT. -/
def execVerify (s : State) : Result :=
  checked .verify s
    (.next (writeFsm .init (scrub (writeDout 0#128 (writeAuth true (ctEqual (tagOperand s) (yValue s)) s)))))

end Sys2Proof.Machine
end

