-- ==== Sys2Proof/Machine/Dispatch.lean ====
section
/-! DEFINITION. The dispatch of a decoded command to its meaning: one arm per constructor of Instr. The command word and din
operand it was sampled with are in the state (cmd, din). -/

namespace Sys2Proof.Machine

def exec (i : Instr) (s : State) : Host.Outcome State Fault Refusal :=
  match i with
  | .nop => Sys2Proof.Machine.execNop s
  | .clrerr => Sys2Proof.Machine.execClrerr s
  | .abort => Sys2Proof.Machine.execAbort s
  | .rderr => Sys2Proof.Machine.execRderr s
  | .ldkey => Sys2Proof.Machine.execLdkey s
  | .ldlen => Sys2Proof.Machine.execLdlen s
  | .rdlen => Sys2Proof.Machine.execRdlen s
  | .bcinit => Sys2Proof.Machine.execBcinit s
  | .bcperm rcnt => Sys2Proof.Machine.execBcperm rcnt s
  | .rds => Sys2Proof.Machine.execRds s
  | .rdw => Sys2Proof.Machine.execRdw s
  | .ldl => Sys2Proof.Machine.execLdl s
  | .rdl => Sys2Proof.Machine.execRdl s
  | .mul2 => Sys2Proof.Machine.execMul2 s
  | .mul3 => Sys2Proof.Machine.execMul3 s
  | .fbg => Sys2Proof.Machine.execFbg s
  | .start dir => Sys2Proof.Machine.execStart dir s
  | .ad => Sys2Proof.Machine.execAd s
  | .msg => Sys2Proof.Machine.execMsg s
  | .tag => Sys2Proof.Machine.execTag s
  | .verify => Sys2Proof.Machine.execVerify s

end Sys2Proof.Machine
end

