-- ==== Sys2Proof/Machine/Clock.lean ====
section
/-! DEFINITION. One rising edge of clk (20_memory.md R51 to R53; 70_reset_and_hazards.md R230, R232, R235 to R238): reset,
acceptance, latency, completion; and the command-level view of 10_state.md R38. -/

namespace Sys2Proof.Machine

/-- All the checks of 60_exceptions.md R210 on the sampled command word: the command, or the error it is rejected with. -/
def checkCommand (s : State) : Except ErrCode Instr :=
  match decode s.cmd with
  | .error c => .error c
  | .ok i =>
    match failedCheck i s with
    | some c => .error c
    | none => .ok i

/-- The latency parameter of a command that passes its checks (R238): a function of the command and the public control state. -/
def latencyOf (i : Instr) (s : State) : Nat :=
  match i with
  | .bcperm rcnt => s.lat.bcperm.getD rcnt.toNat 1
  | .start _ => s.lat.start
  | .ad =>
    if s.fsm = .adIntermediate then s.lat.adInt
    else s.lat.adFin.getD (finalAdSteps s.adRem.toNat s.msgRem - 1) 1
  | .msg =>
    if s.fsm = .msgIntermediate then s.lat.msgInt
    else s.lat.msgFin.getD (finalBlockSteps s.msgRem.toNat - 1) 1
  | .tag => s.lat.tag
  | .verify => s.lat.verify
  | .nop | .clrerr | .abort | .rderr | .ldkey | .ldlen | .rdlen | .bcinit | .rds | .rdw | .ldl | .rdl | .mul2 | .mul3 | .fbg =>
    s.lat.ctrl

/-- LAT(cmd) of the sampled command, at least 1; LAT_REJECT when a check fails (R237, R238). -/
def latency (s : State) : Nat :=
  max 1 (match checkCommand s with
    | .error _ => s.lat.reject
    | .ok i => latencyOf i s)

/-- Runs or rejects the sampled command (60_exceptions.md R210): the register changes of its completing edge. -/
def perform (s : State) : Result :=
  match decode s.cmd with
  | .error c => .next (reject c s)
  | .ok i => exec i s

/-- BUSY returns to 0 and the sampled command is gone (R237; 20_memory.md R63). -/
def retire (s : State) : State := { s with busy := false, cmd := 0#32, din := 0#128, wait := 0 }

/-- Retires the command in the state it leaves; a stop stays a stop. -/
def retired : Result → Result
  | .next s => .next (retire s)
  | .fault r => .fault r
  | .refused r => .refused r

/-- The completing edge (R237). -/
def complete (s : State) : Result := retired (perform s)

/-- The operands sampled at the accepting edge (R53). -/
def sample (c : Word32) (d : Block) (s : State) : State := { s with cmd := c, din := d }

/-- The accepting edge (R52, R237): with latency 1 the command completes here, otherwise BUSY is 1 for n - 1 edges. -/
def accept (c : Word32) (d : Block) (s : State) : Result :=
  if latency (sample c d s) ≤ 1 then complete (sample c d s)
  else .next { sample c d s with busy := true, wait := latency (sample c d s) - 1 }

/-- An edge at which no command is accepted and rst = 0: the running command, if any, comes one edge nearer (R237, R227). -/
def proceed (s : State) : Result :=
  if s.busy then (if s.wait ≤ 1 then complete s else .next { s with wait := s.wait - 1 })
  else .next s

/-- Every register takes its reset value; a running command is abandoned (R230 to R232). The latencies are parameters, not
registers, and the host's later moves are the host's. -/
def resetEngine (later : List HostMove) (s : State) : State := { State.reset with lat := s.lat, host := later }

/-- One rising edge of clk. rst wins (R230); a command is accepted when cmd_ready = 1 and held otherwise (R52, R235). -/
def clockEdge (s : State) : Result :=
  match s.host with
  | .reset :: later => .next (resetEngine later s)
  | .command c d :: later => if s.busy then proceed s else accept c d { s with host := later }
  | .idle :: later => proceed { s with host := later }
  | [] => proceed s

/-- One accepted (cmd, din) pair as one step between commands (10_state.md R38): what acceptance to completion amounts to. -/
def command (c : Word32) (d : Block) (s : State) : Result := complete (sample c d s)

end Sys2Proof.Machine
end

