-- ==== Sys2Proof/Machine/Step.lean ====
section
/-! DEFINITION. The step of the machine: one rising edge of clk (Machine/Clock.lean); and how one command word is put in front of
it (log 11). -/

namespace Sys2Proof.Machine

/-- One step: one rising edge of clk (20_memory.md R51). -/
def step (s : State) : Host.Outcome State Fault Refusal := clockEdge s

/-- s with a command word presented at the ports, din = 0, such that the very next step accepts and completes it: the engine is
not busy and every latency is one edge. The word's bits above nbits are 0. -/
def State.withFetchWord (s : State) (nbits w : Nat) : State :=
  { s with
    host := .command (BitVec.ofNat 32 (w % 2 ^ nbits)) 0#128 :: s.host
    busy := false
    wait := 0
    lat := Config.Latency.oneEdge }

end Sys2Proof.Machine
end

