-- ==== Sys2Proof/Machine/Reference.lean ====
section
/-! DEFINITION. The block counts (43_cofb_fsm.md R155) and the pure reference functions COFB_ENC and COFB_DEC on byte strings
(R166, R167). The engine does not call them: R168 says what a session of commands has to do with them. -/

namespace Sys2Proof.Machine

/-- n_A: the number of AD blocks of a session; one even when there are no AD bytes (R155). -/
def adBlockCount (dlen : Nat) : Nat := if dlen = 0 then 1 else (dlen + 15) / 16

/-- n_M: the number of message blocks of a session (R155). -/
def msgBlockCount (mlen : Nat) : Nat := (mlen + 15) / 16

/-- The bytes of a buffer in lanes 0.., the lanes past its end taken from fill (20_memory.md R57). -/
def blockOfBytes (bytes : List Byte) (fill : Block) : Block := joinBytes (fun i => bytes.getD i (byteOf fill i))

/-- Bytes 0..r-1 of a block. -/
def firstBytes (b : Block) (r : Nat) : List Byte := (List.range r).map (byteOf b)

/-- The running pair (Y, L) of a COFB computation. -/
abbrev Running := Block × Word64

/-- Absorbs plaintext block p under the already updated mask l: Y <- E_K(p ^ G(Y) ^ (L ‖ 0^64)) (R166). -/
def refAbsorb (key p : Block) (l : Word64) (y : Block) : Running := (blockCipher key (maskedBlock p y l), l)

/-- Y <- E_K(N); L <- Y[127:64] (R166). -/
def refStart (key nonce : Block) : Running := (blockCipher key nonce, highHalf (blockCipher key nonce))

/-- n intermediate AD blocks, the next first (R166). -/
def refAdBlocks (key : Block) : Nat → List Byte → Running → Running
  | 0, _, r => r
  | n + 1, a, r =>
    refAdBlocks key n (a.drop 16) (refAbsorb key (blockOfBytes (a.take 16) 0#128) (mulAlpha r.2) r.1)

/-- The final AD mask of R166: dlen is the whole AD length. -/
def refAdMask (dlen mlen : Nat) (l : Word64) : Word64 :=
  let l := if dlen > 0 ∧ dlen % 16 = 0 then mulAlphaPlus1 l else mulAlphaPlus1 (mulAlphaPlus1 l)
  if mlen = 0 then mulAlphaPlus1 (mulAlphaPlus1 l) else l

/-- The whole AD phase (R166). -/
def refAd (key : Block) (a : List Byte) (mlen : Nat) (r : Running) : Running :=
  let last := a.drop (16 * (adBlockCount a.length - 1))
  let r := refAdBlocks key (adBlockCount a.length - 1) a r
  refAbsorb key (pad (blockOfBytes last 0#128) last.length) (refAdMask a.length mlen r.2) r.1

/-- The plaintext of a message block: itself in encryption, XOR Y in decryption (R166, R167). -/
def refPlain (dir : Dir) (b y : Block) : Block :=
  match dir with
  | .encrypt => b
  | .decrypt => b ^^^ y

/-- n intermediate message blocks, the next first: the output bytes so far and the running pair (R166, R167). -/
def refMsgBlocks (dir : Dir) (key : Block) : Nat → List Byte → List Byte × Running → List Byte × Running
  | 0, _, r => r
  | n + 1, m, (out, y, l) =>
    let b := blockOfBytes (m.take 16) 0#128
    refMsgBlocks dir key n (m.drop 16)
      (out ++ firstBytes (b ^^^ y) 16, refAbsorb key (refPlain dir b y) (mulAlpha l) y)

/-- The final message block, of r bytes (R166, R167): decryption pads the recovered plaintext. -/
def refFinalMsg (dir : Dir) (key : Block) (last : List Byte) (r : List Byte × Running) : List Byte × Running :=
  let b := blockOfBytes last 0#128
  let l := if last.length = 16 then mulAlphaPlus1 r.2.2 else mulAlphaPlus1 (mulAlphaPlus1 r.2.2)
  (r.1 ++ firstBytes (b ^^^ r.2.1) last.length, refAbsorb key (pad (refPlain dir b r.2.1) last.length) l r.2.1)

/-- The whole message phase: the output bytes and the running pair (R166, R167). -/
def refMsg (dir : Dir) (key : Block) (m : List Byte) (r : Running) : List Byte × Running :=
  if m.length = 0 then ([], r)
  else
    refFinalMsg dir key (m.drop (16 * (msgBlockCount m.length - 1)))
      (refMsgBlocks dir key (msgBlockCount m.length - 1) m ([], r))

/-- The output bytes and the final Y of one COFB computation. -/
def cofb (dir : Dir) (key nonce : Block) (a m : List Byte) : List Byte × Block :=
  let r := refMsg dir key m (refAd key a m.length (refStart key nonce))
  (r.1, r.2.1)

/-- COFB_ENC(K, N, A, M) = (C, T) (R166). -/
def cofbEnc (key nonce : Block) (a m : List Byte) : List Byte × Block := cofb .encrypt key nonce a m

/-- COFB_DEC(K, N, A, C, T) = (ok, P) (R167). -/
def cofbDec (key nonce : Block) (a c : List Byte) (t : Block) : Bool × List Byte :=
  (ctEqual t (cofb .decrypt key nonce a c).2, (cofb .decrypt key nonce a c).1)

end Sys2Proof.Machine
end

