-- ==== Sys2Proof/Machine/Assembler.lean ====
section
/-! DEFINITION. The host's side: assembler lines and pseudo-instructions as (command word, din) pairs (30_encoding.md R80 to R82),
the commands of a session (43_cofb_fsm.md R168), and a run of commands with what it gives (70_reset_and_hazards.md R241). The
assembler's text form is notation and is not modelled (log 14). -/

namespace Sys2Proof.Machine

/-- One assembler line (R80), its operand already a value. -/
inductive AsmLine where
  | nop
  | clrerr
  | abort
  | rderr
  | ldkey (k : Block)
  | ldlen (dl ml : Word64)
  | rdlen
  | bcinit (b : Block)
  | bcperm (n : BitVec 6)
  | rds
  | rdw
  | ldl (x : Word64)
  | rdl
  | mul2
  | mul3
  | fbg (b : Block)
  | start (dir : Dir) (n : Block)
  | ad (d : List Byte)
  | msg (d : List Byte)
  | tag
  | verify (t : Block)
deriving DecidableEq, Repr

/-- The command a line stands for. -/
def lineInstr : AsmLine → Instr
  | .nop => .nop
  | .clrerr => .clrerr
  | .abort => .abort
  | .rderr => .rderr
  | .ldkey _ => .ldkey
  | .ldlen _ _ => .ldlen
  | .rdlen => .rdlen
  | .bcinit _ => .bcinit
  | .bcperm n => .bcperm n
  | .rds => .rds
  | .rdw => .rdw
  | .ldl _ => .ldl
  | .rdl => .rdl
  | .mul2 => .mul2
  | .mul3 => .mul3
  | .fbg _ => .fbg
  | .start dir _ => .start dir
  | .ad _ => .ad
  | .msg _ => .msg
  | .tag => .tag
  | .verify _ => .verify

/-- The din a line is assembled with: 0 where the operand is ignored (R80, R82). -/
def lineDin : AsmLine → Block
  | .ldkey k => k
  | .ldlen dl ml => dl ++ ml
  | .bcinit b => b
  | .ldl x => inHighHalf x
  | .fbg b => b
  | .start _ n => n
  | .ad d => blockOfBytes d 0#128
  | .msg d => blockOfBytes d 0#128
  | .verify t => t
  | .nop | .clrerr | .abort | .rderr | .rdlen | .bcperm _ | .rds | .rdw | .rdl | .mul2 | .mul3 | .tag => 0#128

/-- A line assembles to a pair (command word, din) (R80). -/
def assemble (l : AsmLine) : Word32 × Block := (encode (lineInstr l), lineDin l)

/-- n blocks of 16 bytes, then the rest as the last block. -/
def blocksOf : Nat → List Byte → List (List Byte)
  | 0, a => [a]
  | n + 1, a => a.take 16 :: blocksOf n (a.drop 16)

/-- The n_A blocks of the associated data; one empty block when there are no bytes (R155, R60). -/
def adBlocks (a : List Byte) : List (List Byte) := blocksOf (adBlockCount a.length - 1) a

/-- The n_M blocks of the message; none when it is empty (R155, R60). -/
def msgBlocks (m : List Byte) : List (List Byte) :=
  if m.length = 0 then [] else blocksOf (msgBlockCount m.length - 1) m

/-- BLOCK128 k, b (R81). -/
def block128Lines (k b : Block) : List AsmLine := [.ldkey k, .bcinit b, .bcperm 40#6, .rds]

/-- What ENCRYPT and DECRYPT have in common (R81). -/
def sessionLines (dir : Dir) (k n : Block) (a m : List Byte) : List AsmLine :=
  [.ldkey k, .ldlen (BitVec.ofNat 64 a.length) (BitVec.ofNat 64 m.length), .start dir n]
    ++ (adBlocks a).map .ad ++ (msgBlocks m).map .msg

/-- ENCRYPT k, n, A, M (R81). -/
def encryptLines (k n : Block) (a m : List Byte) : List AsmLine := sessionLines .encrypt k n a m ++ [.tag]

/-- DECRYPT k, n, A, C, T (R81). -/
def decryptLines (k n : Block) (a c : List Byte) (t : Block) : List AsmLine := sessionLines .decrypt k n a c ++ [.verify t]

/-- START, the AD commands and the MSG commands of a session, with whatever fill holds in the ignored lanes (R168). -/
def sessionCommands (dir : Dir) (n : Block) (a m : List Byte) (fill : Block) : List (Word32 × Block) :=
  [(encode (.start dir), n)]
    ++ (adBlocks a).map (fun b => (encode .ad, blockOfBytes b fill))
    ++ (msgBlocks m).map (fun b => (encode .msg, blockOfBytes b fill))

/-- What the host reads after a command: DOUT and STATUS (R241). -/
abbrev Observation := Block × Word32

/-- A run of commands, each accepted after the one before completed, with what it gives (R241); none when the model stops. -/
def runCommands : List (Word32 × Block) → State → Option (State × List Observation)
  | [], s => some (s, [])
  | (c, d) :: later, s =>
    match command c d s with
    | .next t =>
      match runCommands later t with
      | some (u, seen) => some (u, (t.dout, status t) :: seen)
      | none => none
    | .fault _ => none
    | .refused _ => none

/-- The MSG outputs of a session's message blocks, lanes 0..r-1 of each, joined in order (R168). -/
def collectOutput : List (List Byte) → List Observation → List Byte
  | b :: blocks, o :: seen => firstBytes o.1 b.length ++ collectOutput blocks seen
  | _, _ => []

end Sys2Proof.Machine
end

