-- ==== Sys2Proof/Safety.lean ====
section
/-! DEFINITION. What claims about runs are stated in: the invariants between commands (43_cofb_fsm.md R170 and the error, result
and handshake registers' own), and when two machines agree on everything public (70_reset_and_hazards.md R239). -/

namespace Sys2Proof.Safety

open Sys2Proof.Machine

/-- R170: what the FSM state says of the two length counters. -/
abbrev LengthsInv (s : State) : Prop :=
  (s.fsm = .adIntermediate → 16#64 < s.adRem)
  ∧ (s.fsm = .adFinal → s.adRem ≤ 16#64)
  ∧ (s.fsm = .msgIntermediate ∨ s.fsm = .msgFinal ∨ s.fsm = .tag → s.adRem = 0#64)
  ∧ (s.fsm = .msgIntermediate → 16#64 < s.msgRem)
  ∧ (s.fsm = .msgFinal → 1#64 ≤ s.msgRem ∧ s.msgRem ≤ 16#64)
  ∧ (s.fsm = .tag ∨ s.fsm = .init → s.msgRem = 0#64 ∧ s.adRem = 0#64)

/-- The error record is all zero or holds an error (60_exceptions.md R211, R213, 45_control.md R201). -/
abbrev ErrorInv (s : State) : Prop :=
  (s.err = false → s.errCode = .noError ∧ s.errCmd = 0#32) ∧ (s.err = true → s.errCode ≠ .noError)

/-- AUTH_OK stands only beside AUTH_DONE, no session has a result before its VERIFY, and only a decryption session has one
(10_state.md R30, 60_exceptions.md R221). -/
abbrev AuthInv (s : State) : Prop :=
  (s.authOk = true → s.authDone = true)
  ∧ (s.fsm ≠ .init → s.authDone = false)
  ∧ (s.authDone = true → s.dir = .decrypt)

/-- Between commands nothing of a command is held; while BUSY = 1 at least one edge is left (70_reset_and_hazards.md R237). -/
abbrev HandshakeInv (s : State) : Prop :=
  (s.busy = false → s.cmd = 0#32 ∧ s.din = 0#128 ∧ s.wait = 0) ∧ (s.busy = true → 1 ≤ s.wait)

/-- The invariant of the machine: it holds at reset and every step keeps it. -/
abbrev Inv (s : State) : Prop := LengthsInv s ∧ ErrorInv s ∧ AuthInv s ∧ HandshakeInv s

/-- A state the machine goes on from. -/
def Runs (s : State) : Prop := ∃ t, step s = .next t

/-- The answer with f applied to the next state; a stop stays as it is. -/
def mapNext (f : State → State) : Result → Result
  | .next s => .next (f s)
  | .fault r => .fault r
  | .refused r => .refused r

/-- The OPC values the opcode map leaves unassigned (30_encoding.md R77). -/
abbrev Unassigned (opc : Nat) : Prop :=
  (0x04 ≤ opc ∧ opc ≤ 0x07) ∨ (0x0B ≤ opc ∧ opc ≤ 0x0F) ∨ (0x14 ≤ opc ∧ opc ≤ 0x1F)
  ∨ (0x24 ≤ opc ∧ opc ≤ 0x2F) ∨ (0x31 ≤ opc ∧ opc ≤ 0x3F) ∨ 0x45 ≤ opc

/-- The record of a rejection with code c, as 60_exceptions.md R213 writes it: kept when an error is already recorded. -/
def recorded (c : ErrCode) (s : State) : State :=
  if s.err = true then s else { s with err := true, errCode := c, errCmd := s.cmd }

/-- LDLEN's operand is public: the lengths (R239 counts DLEN and MLEN as public control state). -/
def dinIsPublic (cmd : Word32) : Bool := decide (opcField cmd = 0x09#8)

/-- Two host moves that differ at most in a secret operand. -/
def samePublicMove : HostMove → HostMove → Prop
  | .command c d, .command c' d' => c = c' ∧ (dinIsPublic c = true → d = d')
  | .idle, .idle => True
  | .reset, .reset => True
  | _, _ => False

/-- Two states that agree on everything public: FSM, DIR, the lengths and counters, the error record, AUTH_DONE, BUSY, the
command being executed, its remaining edges, the latencies and the host's coming moves. They may differ in KEY, S, W, Y, L, DOUT,
AUTH_OK and every operand but LDLEN's. -/
structure SamePublic (s t : State) : Prop where
  fsm : s.fsm = t.fsm
  dir : s.dir = t.dir
  dlen : s.dlen = t.dlen
  mlen : s.mlen = t.mlen
  adRem : s.adRem = t.adRem
  msgRem : s.msgRem = t.msgRem
  err : s.err = t.err
  errCode : s.errCode = t.errCode
  errCmd : s.errCmd = t.errCmd
  authDone : s.authDone = t.authDone
  busy : s.busy = t.busy
  cmd : s.cmd = t.cmd
  wait : s.wait = t.wait
  lat : s.lat = t.lat
  din : dinIsPublic s.cmd = true → s.din = t.din
  host : List.Forall₂ samePublicMove s.host t.host

/-- Two answers that are the same kind of answer, with next states that agree on everything public. -/
def samePublicResult : Result → Result → Prop
  | .next s, .next t => SamePublic s t
  | .fault a, .fault b => a = b
  | .refused a, .refused b => a = b
  | _, _ => False

end Sys2Proof.Safety
end

