-- ==== Sys2Proof/Certificates/Slice0/Obligations.lean ====
section
/-! DEFINITION. The statements for the provers, in the order of the spec's files; OBLIGATIONS.json lists them. An equation
`exec i s = .next { s with … }` says what the command writes and that every other field of the state is unchanged (its frame);
the engine has no memory (20_memory.md R50). -/

open Sys2Proof Sys2Proof.Machine Sys2Proof.Safety

/-! ### Encoding and decoding (30_encoding.md) -/

/-- R70 to R73, R76, R80: decoding the word of a well-formed command gives it back, for every round count and direction. -/
def Obligations.DecodeOfEncode : Prop :=
  ∀ i : Instr, i.wellFormed = true → decode (encode i) = .ok i

/-- R70 to R76: a word that decodes is the word of the command it decodes to, and that command is well formed. -/
def Obligations.EncodeOfDecode : Prop :=
  ∀ (w : Word32) (i : Instr), decode w = .ok i → encode i = w ∧ i.wellFormed = true

/-- R77: the 235 unassigned OPC values are ILLEGAL_OPCODE with no other effect; an assigned OPC with a bad field is BAD_FIELD.
-/
def Obligations.IllegalEncodings : Prop :=
  ((List.range 256).filter (fun n => decide (Unassigned n))).length = 235
  ∧ (∀ w : Word32, decode w = .error .illegalOpcode ↔ Unassigned (w.extractLsb' 0 8).toNat)
  ∧ (∀ w : Word32, decode w = .error .badField ↔
      ¬ Unassigned (w.extractLsb' 0 8).toNat
      ∧ (w.extractLsb' 15 17 ≠ 0#17
        ∨ (w.extractLsb' 0 8 ≠ 0x11#8 ∧ w.extractLsb' 8 6 ≠ 0#6)
        ∨ (w.extractLsb' 0 8 = 0x11#8 ∧ 40#6 < w.extractLsb' 8 6)
        ∨ (w.extractLsb' 0 8 ≠ 0x40#8 ∧ w.extractLsb' 14 1 ≠ 0#1)))
  ∧ (∀ s : State, Unassigned (s.cmd.extractLsb' 0 8).toNat → perform s = .next (recorded .illegalOpcode s))
  ∧ (∀ s : State, decode s.cmd = .error .badField → perform s = .next (recorded .badField s))

/-- R76 and 95_test_vectors.md section 2.6: one word for each of the 21 rows of the opcode map, written out from its OPC value,
decodes to that row's command, with BCPERM's round count and START's direction in their fields; and words that are refused. -/
def Obligations.TableWordsDecode : Prop :=
  decodeTableWord 32 0x00000000 = some .nop
  ∧ decodeTableWord 32 0x00000001 = some .clrerr
  ∧ decodeTableWord 32 0x00000002 = some .abort
  ∧ decodeTableWord 32 0x00000003 = some .rderr
  ∧ decodeTableWord 32 0x00000008 = some .ldkey
  ∧ decodeTableWord 32 0x00000009 = some .ldlen
  ∧ decodeTableWord 32 0x0000000A = some .rdlen
  ∧ decodeTableWord 32 0x00000010 = some .bcinit
  ∧ decodeTableWord 32 0x00002811 = some (.bcperm 40#6)
  ∧ decodeTableWord 32 0x00001511 = some (.bcperm 21#6)
  ∧ decodeTableWord 32 0x00000012 = some .rds
  ∧ decodeTableWord 32 0x00000013 = some .rdw
  ∧ decodeTableWord 32 0x00000020 = some .ldl
  ∧ decodeTableWord 32 0x00000021 = some .rdl
  ∧ decodeTableWord 32 0x00000022 = some .mul2
  ∧ decodeTableWord 32 0x00000023 = some .mul3
  ∧ decodeTableWord 32 0x00000030 = some .fbg
  ∧ decodeTableWord 32 0x00000040 = some (.start .encrypt)
  ∧ decodeTableWord 32 0x00004040 = some (.start .decrypt)
  ∧ decodeTableWord 32 0x00000041 = some .ad
  ∧ decodeTableWord 32 0x00000042 = some .msg
  ∧ decodeTableWord 32 0x00000043 = some .tag
  ∧ decodeTableWord 32 0x00000044 = some .verify
  ∧ decodeTableWord 32 0x00002911 = none
  ∧ decodeTableWord 32 0x00004041 = none
  ∧ decodeTableWord 32 0x00008000 = none
  ∧ decodeTableWord 32 0x80000004 = none

/-! ### Steps: acceptance, completion, reset (20_memory.md, 70_reset_and_hazards.md) -/

/-- R52, R237: with latency 1, the edge that accepts a word that decodes to i runs exec of i on the sampled operands and
retires the command; and the last edge of a longer command does the same. -/
def Obligations.StepRunsDecoded : Prop :=
  (∀ (s : State) (c : Word32) (d : Block) (later : List HostMove) (i : Instr),
    s.busy = false → s.host = .command c d :: later → decode c = .ok i →
    latency { s with host := later, cmd := c, din := d } = 1 →
    step s = mapNext (fun t => { t with busy := false, cmd := 0#32, din := 0#128, wait := 0 })
      (exec i { s with host := later, cmd := c, din := d }))
  ∧ (∀ (s : State) (i : Instr),
    s.busy = true → s.wait = 1 → rstIn s = false → (∀ later, s.host ≠ .idle :: later) → decode s.cmd = .ok i →
    step s = mapNext (fun t => { t with busy := false, cmd := 0#32, din := 0#128, wait := 0 }) (exec i s))
  ∧ (∀ (s : State) (later : List HostMove) (i : Instr),
    s.busy = true → s.wait = 1 → s.host = .idle :: later → decode s.cmd = .ok i →
    step s = mapNext (fun t => { t with busy := false, cmd := 0#32, din := 0#128, wait := 0 }) (exec i { s with host := later }))

/-- R237: a command accepted with latency n completes n edges later, counting the accepting edge, with the effect of the one
command-level step and BUSY = 0; BUSY is 1 and no register has changed after each edge before that. -/
def Obligations.CompletesAfterLatency : Prop :=
  ∀ (s : State) (c : Word32) (d : Block), s.busy = false → s.host = [] →
    1 ≤ latency (sample c d s)
    ∧ (∀ e, checkCommand (sample c d s) = .error e → latency (sample c d s) = max 1 s.lat.reject)
    ∧ core.run (latency (sample c d s)) { s with host := [.command c d] } = command c d s
    ∧ (∀ t, command c d s = .next t → t.busy = false)
    ∧ ∀ k, 1 ≤ k → k < latency (sample c d s) →
        core.run k { s with host := [.command c d] }
          = .next { s with cmd := c, din := d, busy := true, wait := latency (sample c d s) - k }

/-- R238 (the values are OPEN, log 3; the two final-block parameters may vary with the public number of mask multiplications,
log 4): which parameter is the latency of each command, and of every rejected one; each counts as at least 1. -/
def Obligations.LatencyParameters : Prop :=
  ∀ s : State,
    (∀ e, checkCommand s = .error e → latency s = max 1 s.lat.reject)
    ∧ (∀ i, checkCommand s = .ok i → latency s = max 1 (match i with
      | .nop | .clrerr | .abort | .rderr | .ldkey | .ldlen | .rdlen | .bcinit | .rds | .rdw | .ldl | .rdl | .mul2 | .mul3
      | .fbg => s.lat.ctrl
      | .bcperm rcnt => s.lat.bcperm.getD rcnt.toNat 1
      | .start _ => s.lat.start
      | .ad =>
        if s.fsm = .adIntermediate then s.lat.adInt
        else if s.msgRem = 0#64 then s.lat.adFin.getD (if s.adRem = 16#64 then 2 else 3) 1
        else s.lat.adFin.getD (if s.adRem = 16#64 then 0 else 1) 1
      | .msg =>
        if s.fsm = .msgIntermediate then s.lat.msgInt
        else s.lat.msgFin.getD (if s.msgRem = 16#64 then 0 else 1) 1
      | .tag => s.lat.tag
      | .verify => s.lat.verify))

/-- R230, R232: an edge with rst = 1 puts every register at its reset value, at any time, abandoning a running command;
nothing is accepted at it, cmd_ready is 0 before it, a second such edge changes nothing more, and after it a command may be
accepted. -/
def Obligations.ResetAtAnyEdge : Prop :=
  ∀ (s : State) (later : List HostMove), s.host = .reset :: later →
    cmdReady s = false
    ∧ ∃ t, step s = .next t ∧ t.host = later
      ∧ t.sReg = ⟨0#32, 0#32, 0#32, 0#32⟩ ∧ t.wReg = ⟨0#16, 0#16, 0#16, 0#16, 0#16, 0#16, 0#16, 0#16⟩ ∧ t.key = 0#128
      ∧ t.yReg = ⟨0#32, 0#32, 0#32, 0#32⟩ ∧ t.lReg = ⟨0#32, 0#32⟩ ∧ t.dlen = 0#64 ∧ t.mlen = 0#64
      ∧ t.adRem = 0#64 ∧ t.msgRem = 0#64 ∧ t.dout = 0#128 ∧ t.fsm = .init ∧ t.dir = .encrypt
      ∧ t.authDone = false ∧ t.authOk = false ∧ t.err = false ∧ t.errCode = .noError ∧ t.errCmd = 0#32 ∧ t.busy = false
      ∧ status t = 0#32
      ∧ (∀ rest, later = .reset :: rest → step t = .next { t with host := rest })
      ∧ (∀ c d rest, later = .command c d :: rest → cmdReady t = true)

/-- R39, 10_state.md section 4: the machine's initial state has the reset value the spec states for every register. -/
def Obligations.ResetValues : Prop :=
  State.reset.sReg = ⟨0#32, 0#32, 0#32, 0#32⟩ ∧ State.reset.wReg = ⟨0#16, 0#16, 0#16, 0#16, 0#16, 0#16, 0#16, 0#16⟩
  ∧ State.reset.key = 0#128 ∧ State.reset.yReg = ⟨0#32, 0#32, 0#32, 0#32⟩ ∧ State.reset.lReg = ⟨0#32, 0#32⟩
  ∧ State.reset.dlen = 0#64 ∧ State.reset.mlen = 0#64 ∧ State.reset.adRem = 0#64 ∧ State.reset.msgRem = 0#64
  ∧ State.reset.dout = 0#128 ∧ State.reset.fsm = .init ∧ State.reset.dir = .encrypt
  ∧ State.reset.authDone = false ∧ State.reset.authOk = false ∧ State.reset.err = false
  ∧ State.reset.errCode = .noError ∧ State.reset.errCmd = 0#32 ∧ State.reset.busy = false ∧ status State.reset = 0#32

/-- R33, with the FSM codes of R28, the DIR values of R29 and the ERR_CODE values of R211: where each field stands in STATUS, that
bits 31:12 read 0, and that STATUS is 0 at reset. -/
def Obligations.StatusLayout : Prop :=
  status State.reset = 0#32
  ∧ ∀ s : State,
    (status s).getLsbD 0 = s.busy
    ∧ (status s).extractLsb' 1 3 = (match s.fsm with
      | .init => 0#3
      | .adIntermediate => 1#3
      | .adFinal => 2#3
      | .msgIntermediate => 3#3
      | .msgFinal => 4#3
      | .tag => 5#3)
    ∧ (status s).extractLsb' 4 1 = (match s.dir with
      | .encrypt => 0#1
      | .decrypt => 1#1)
    ∧ (status s).getLsbD 5 = s.authDone
    ∧ (status s).getLsbD 6 = s.authOk
    ∧ (status s).getLsbD 7 = s.err
    ∧ (status s).extractLsb' 8 4 = (match s.errCode with
      | .noError => 0#4
      | .illegalOpcode => 1#4
      | .badField => 2#4
      | .badState => 3#4
      | .wrongDir => 4#4)
    ∧ (status s).extractLsb' 12 20 = 0#20

/-- R54, R236, R51: between commands the ports show DOUT and STATUS; while BUSY = 1 they show no value but status bit 0 = 1,
and cmd_ready is 0. -/
def Obligations.OutputPorts : Prop :=
  ∀ s : State,
    (s.busy = false → doutPort s = some s.dout ∧ ∀ k, statusBit s k = some ((status s).getLsbD k))
    ∧ (s.busy = true → doutPort s = none ∧ statusBit s 0 = some true ∧ (∀ k, 1 ≤ k → statusBit s k = none))
    ∧ (cmdReady s = true ↔ s.busy = false ∧ ∀ later, s.host ≠ .reset :: later)

/-- R235, R52, R227: while BUSY = 1 a presented command stays presented; an edge with no command and no running command
changes no register. -/
def Obligations.HandshakeHold : Prop :=
  (∀ (s t : State) (c : Word32) (d : Block) (later : List HostMove),
    s.busy = true → s.host = .command c d :: later → step s = .next t → t.host = s.host)
  ∧ (∀ (s : State) (later : List HostMove), s.busy = false → s.host = .idle :: later → step s = .next { s with host := later })
  ∧ (∀ s : State, s.busy = false → s.host = [] → step s = .next s)

/-- R61, R237, R241, R38: a host that presents commands one after the other sees exactly the sequential semantics, whatever the
latencies are. Some number of clock edges leads to the state the commands lead to as steps between commands; and after each
command there is an edge with BUSY = 0, the later commands still to be presented, at which (DOUT, STATUS) is what the sequential
run gives after that command. -/
def Obligations.EdgesRefineCommands : Prop :=
  ∀ (cmds : List (Word32 × Block)) (s u : State) (seen : List Observation),
    s.busy = false → s.host = [] → runCommands cmds s = some (u, seen) →
    let presented : List (Word32 × Block) → List HostMove := List.map (fun p => HostMove.command p.1 p.2)
    (∃ k, core.run k { s with host := presented cmds } = .next u)
    ∧ seen.length = cmds.length
    ∧ ∀ (j : Nat) (o : Observation), seen[j]? = some o →
        ∃ (k : Nat) (t : State), core.run k { s with host := presented cmds } = .next t
          ∧ t.host = presented (cmds.drop (j + 1)) ∧ t.busy = false ∧ t.dout = o.1 ∧ status t = o.2

/-- R239 (marked [derived] by the spec): no KEY, S, W, Y, L, compared tag, comparison result or block operand changes when a
command completes, what is rejected, or any public register: two machines that agree on everything public go on agreeing after
every edge. -/
def Obligations.ConstantTime : Prop :=
  ∀ s t : State, SamePublic s t → samePublicResult (step s) (step t)

/-! ### Invariants (43_cofb_fsm.md R170) -/

/-- The machine's invariant holds at reset. -/
def Obligations.InvAtReset : Prop := Inv State.reset

/-- R170 (marked [derived] by the spec): every step from a state that meets the invariant leads to one that meets it. -/
def Obligations.StepKeepsInv : Prop := ∀ s t : State, Inv s → step s = .next t → Inv t

/-- R170, R210 (marked [derived] by the spec): from every state that meets the invariant the machine goes on: the counters
never go below 0, every pad count is in 0..16, and no command is refused. -/
def Obligations.StepNeverStops : Prop := ∀ s : State, Inv s → ∃ t, step s = .next t

/-! ### Command errors (60_exceptions.md) -/

/-- R210, R220, R221, R218: the checks of an accepted command in their order, written out from the rule; the first that fails
gives the code, a command that passes all four is run by exec, and no check reads din. -/
def Obligations.ChecksInOrder : Prop :=
  ∀ s : State,
    let opc := s.cmd.extractLsb' 0 8
    let rcnt := s.cmd.extractLsb' 8 6
    let dirb := s.cmd.extractLsb' 14 1
    let rsv := s.cmd.extractLsb' 15 17
    (∀ d, checkCommand { s with din := d } = checkCommand s) ∧
    if Unassigned opc.toNat then perform s = .next (recorded .illegalOpcode s)
    else if rsv ≠ 0#17 ∨ (opc ≠ 0x11#8 ∧ rcnt ≠ 0#6) ∨ (opc = 0x11#8 ∧ 40#6 < rcnt) ∨ (opc ≠ 0x40#8 ∧ dirb ≠ 0#1) then
      perform s = .next (recorded .badField s)
    else if (s.fsm ≠ .init ∧ opc ∈ [0x08#8, 0x09#8, 0x10#8, 0x11#8, 0x12#8, 0x13#8, 0x20#8, 0x21#8, 0x22#8, 0x23#8, 0x40#8])
        ∨ (¬ (s.fsm = .adIntermediate ∨ s.fsm = .adFinal) ∧ opc = 0x41#8)
        ∨ (¬ (s.fsm = .msgIntermediate ∨ s.fsm = .msgFinal) ∧ opc = 0x42#8)
        ∨ (s.fsm ≠ .tag ∧ (opc = 0x43#8 ∨ opc = 0x44#8)) then
      perform s = .next (recorded .badState s)
    else if (opc = 0x43#8 ∧ s.dir = .decrypt) ∨ (opc = 0x44#8 ∧ s.dir = .encrypt) then
      perform s = .next (recorded .wrongDir s)
    else ∃ i, decode s.cmd = .ok i ∧ perform s = exec i s ∧ failedCheck i s = none

/-- R212, R213: a command that fails a check, of its word or of the state, changes nothing but the error record, and that only
when ERR = 0. -/
def Obligations.RejectionOnlyRecords : Prop :=
  (∀ (s : State) (c : ErrCode), checkCommand s = .error c →
    c ≠ .noError
    ∧ (s.err = true → perform s = .next s)
    ∧ (s.err = false → perform s = .next { s with err := true, errCode := c, errCmd := s.cmd }))
  ∧ (∀ (i : Instr) (s : State) (c : ErrCode), failedCheck i s = some c →
    c ≠ .noError
    ∧ (s.err = true → exec i s = .next s)
    ∧ (s.err = false → exec i s = .next { s with err := true, errCode := c, errCmd := s.cmd }))

/-- R220: outside the states of the legality table each command is rejected with BAD_STATE. -/
def Obligations.WrongStateRejected : Prop :=
  ∀ s : State,
    (s.fsm ≠ .init → ∀ i ∈ [Instr.ldkey, .ldlen, .bcinit, .rds, .rdw, .ldl, .rdl, .mul2, .mul3],
      exec i s = .next (recorded .badState s))
    ∧ (s.fsm ≠ .init → ∀ rcnt : BitVec 6, rcnt ≤ 40#6 → exec (.bcperm rcnt) s = .next (recorded .badState s))
    ∧ (s.fsm ≠ .init → ∀ dir : Dir, exec (.start dir) s = .next (recorded .badState s))
    ∧ (s.fsm ≠ .adIntermediate → s.fsm ≠ .adFinal → exec .ad s = .next (recorded .badState s))
    ∧ (s.fsm ≠ .msgIntermediate → s.fsm ≠ .msgFinal → exec .msg s = .next (recorded .badState s))
    ∧ (s.fsm ≠ .tag → exec .tag s = .next (recorded .badState s) ∧ exec .verify s = .next (recorded .badState s))

/-- R221: in the TAG state the command of the other direction is rejected with WRONG_DIR. -/
def Obligations.WrongDirectionRejected : Prop :=
  ∀ s : State, s.fsm = .tag →
    (s.dir = .decrypt → exec .tag s = .next (recorded .wrongDir s))
    ∧ (s.dir = .encrypt → exec .verify s = .next (recorded .wrongDir s))

/-- R72: a round count above 40 is rejected with BAD_FIELD, in every state. -/
def Obligations.RoundCountAbove40Rejected : Prop :=
  ∀ (s : State) (rcnt : BitVec 6), 40#6 < rcnt →
    exec (.bcperm rcnt) s = .next (recorded .badField s)
    ∧ decode (encode (.bcperm rcnt)) = .error .badField

/-- R214: ERR is a record, not a lock: whatever the record holds, an admitted command has the same effect on everything else,
and the two commands about the record, CLRERR and RDERR, run as well. -/
def Obligations.ErrorsDoNotBlock : Prop :=
  ∀ (i : Instr) (s : State) (e : Bool) (c : ErrCode) (w : Word32),
    failedCheck i (writeError e c w s) = failedCheck i s
    ∧ (failedCheck i s = none → i ≠ .rderr → i ≠ .clrerr →
        exec i (writeError e c w s) = mapNext (writeError e c w) (exec i s))
    ∧ exec .clrerr (writeError e c w s) = .next { s with err := false, errCode := .noError, errCmd := 0#32 }
    ∧ exec .rderr (writeError e c w s)
        = .next { s with err := e, errCode := c, errCmd := w, dout := 0#96 ++ w }

/-! ### Control commands (45_control.md) -/

/-- R200 to R203: NOP, CLRERR, ABORT and RDERR in every state. -/
def Obligations.ControlCommands : Prop :=
  ∀ s : State,
    exec .nop s = .next s
    ∧ exec .clrerr s = .next { s with err := false, errCode := .noError, errCmd := 0#32 }
    ∧ exec .abort s = .next { s with
        sReg := ⟨0#32, 0#32, 0#32, 0#32⟩, wReg := ⟨0#16, 0#16, 0#16, 0#16, 0#16, 0#16, 0#16, 0#16⟩
        yReg := ⟨0#32, 0#32, 0#32, 0#32⟩, lReg := ⟨0#32, 0#32⟩
        adRem := 0#64, msgRem := 0#64, dout := 0#128, fsm := .init }
    ∧ exec .rderr s = .next { s with dout := 0#96 ++ s.errCmd }

/-! ### GIFT-128 (40_gift128.md) -/

/-- R114, R115, R117, R118: LDKEY, BCINIT, RDS and RDW in INIT, word by word. -/
def Obligations.CipherRegisterCommands : Prop :=
  ∀ s : State, s.fsm = .init →
    exec .ldkey s = .next { s with key := s.din }
    ∧ exec .bcinit s = .next { s with
        sReg := ⟨s.din.extractLsb' 96 32, s.din.extractLsb' 64 32, s.din.extractLsb' 32 32, s.din.extractLsb' 0 32⟩
        wReg := ⟨s.key.extractLsb' 112 16, s.key.extractLsb' 96 16, s.key.extractLsb' 80 16, s.key.extractLsb' 64 16,
          s.key.extractLsb' 48 16, s.key.extractLsb' 32 16, s.key.extractLsb' 16 16, s.key.extractLsb' 0 16⟩ }
    ∧ exec .rds s = .next { s with dout := s.sReg.w0 ++ s.sReg.w1 ++ s.sReg.w2 ++ s.sReg.w3 }
    ∧ exec .rdw s = .next { s with dout := s.wReg.k0 ++ s.wReg.k1 ++ s.wReg.k2 ++ s.wReg.k3
        ++ s.wReg.k4 ++ s.wReg.k5 ++ s.wReg.k6 ++ s.wReg.k7 }

/-- R116, R111: BCPERM R in INIT applies Round(0), ..., Round(R-1) in order to S and W, for every R in 0..40. -/
def Obligations.BcpermRunsRounds : Prop :=
  ∀ (s : State) (rcnt : BitVec 6), s.fsm = .init → rcnt ≤ 40#6 →
    exec (.bcperm rcnt) s = .next { s with
      sReg := ((List.range rcnt.toNat).foldl (fun c r => round r c) ⟨s.sReg, s.wReg⟩).s
      wReg := ((List.range rcnt.toNat).foldl (fun c r => round r c) ⟨s.sReg, s.wReg⟩).w }

/-- R110, R111: Round(r) is SubCells, PermBits, AddRoundKey&Constant with index r and the key state from before the round, then
KeyUpdate, its constant being RC[r]; permute<0> changes nothing, permute<a + 1> ends with Round(a), and permute<a> is a prefix of
permute<a + b>: the further rounds go on with index a. -/
def Obligations.PermutePrefix : Prop :=
  ∀ (a b r : Nat) (c : CipherState),
    (round r c).s = addRoundKey r c.w (permBits (subCells c.s))
    ∧ (round r c).w = keyUpdate c.w
    ∧ (round r c).s.w3 = (permBits (subCells c.s)).w3 ^^^ (0x80000000#32 ||| (roundConstant r).setWidth 32)
    ∧ permute 0 c = c
    ∧ permute (a + 1) c = round a (permute a c)
    ∧ permute (a + b) c = roundsFrom a b (permute a c)
    ∧ roundsFrom a 0 c = c
    ∧ roundsFrom a (b + 1) c = roundsFrom (a + 1) b (round a c)

/-- R106 (marked [derived] by the spec): SubCells replaces the nibble in every lane by GS, independently of the other lanes.
-/
def Obligations.SubCellsLanes : Prop :=
  ∀ (x : Words4) (n : Nat), n < 32 →
    let nibble := fun y : Words4 =>
      BitVec.ofBool (y.w3.getLsbD n) ++ BitVec.ofBool (y.w2.getLsbD n) ++ BitVec.ofBool (y.w1.getLsbD n) ++ BitVec.ofBool (y.w0.getLsbD n)
    nibble (subCells x)
      = [0x1#4, 0xA#4, 0x4#4, 0xC#4, 0x6#4, 0xF#4, 0x3#4, 0x9#4, 0x2#4, 0xD#4, 0xB#4, 0x7#4, 0x5#4, 0x0#4, 0x8#4, 0xE#4].getD
          (nibble x).toNat 0#4

/-- R102, R103, R107 (the table is general knowledge, log 9): in every word w, bit i of the input goes to bit floor(i/4) +
8*((w - i mod 4) mod 4) of the output. -/
def Obligations.PermBitsDestination : Prop :=
  ∀ (x : Words4) (i : Nat), i < 32 →
    (permBits x).w0.getLsbD (i / 4 + 8 * ((4 - i % 4) % 4)) = x.w0.getLsbD i
    ∧ (permBits x).w1.getLsbD (i / 4 + 8 * ((5 - i % 4) % 4)) = x.w1.getLsbD i
    ∧ (permBits x).w2.getLsbD (i / 4 + 8 * ((6 - i % 4) % 4)) = x.w2.getLsbD i
    ∧ (permBits x).w3.getLsbD (i / 4 + 8 * ((7 - i % 4) % 4)) = x.w3.getLsbD i

/-- R101 (general knowledge, log 9): the round constants are the output of the 6-bit affine shift register started at 0. -/
def Obligations.RoundConstantsGenerated : Prop :=
  ∀ r, r < 40 → roundConstant r
    = (List.range (r + 1)).foldl
        (fun (c : BitVec 6) _ => (c <<< 1) ||| ((c.extractLsb' 5 1 ^^^ c.extractLsb' 4 1 ^^^ 1#1).setWidth 6)) 0#6

/-- R108: AddRoundKey&Constant leaves S[0], adds W[6] ‖ W[7] to S[1] and W[2] ‖ W[3] to S[2], and changes S[3] in bit 31
always, in bits 0..5 by RC[r], and in no other bit. -/
def Obligations.AddRoundKeyBits : Prop :=
  ∀ (r : Nat) (w : KeyWords) (x : Words4),
    (addRoundKey r w x).w0 = x.w0
    ∧ (addRoundKey r w x).w1 = x.w1 ^^^ (w.k6 ++ w.k7)
    ∧ (addRoundKey r w x).w2 = x.w2 ^^^ (w.k2 ++ w.k3)
    ∧ (addRoundKey r w x).w3.getLsbD 31 = !x.w3.getLsbD 31
    ∧ (∀ n, n < 6 → (addRoundKey r w x).w3.getLsbD n = (x.w3.getLsbD n ^^ (roundConstant r).getLsbD n))
    ∧ (∀ n, 6 ≤ n → n < 31 → (addRoundKey r w x).w3.getLsbD n = x.w3.getLsbD n)

/-- R109: KeyUpdate moves W[0..5] to W[2..7] and puts the rotated old W[6] and W[7] in W[0] and W[1]. -/
def Obligations.KeyUpdateShifts : Prop :=
  ∀ w : KeyWords,
    join16 (keyUpdate w)
      = ((w.k6 >>> 2) ||| (w.k6 <<< 14)) ++ ((w.k7 >>> 12) ||| (w.k7 <<< 4)) ++ (join16 w).extractLsb' 32 96

/-- R22, R118: in INIT, BCINIT then RDW returns KEY. -/
def Obligations.KeyReadBack : Prop :=
  ∀ s : State, s.fsm = .init → ∃ t u, exec .bcinit s = .next t ∧ exec .rdw t = .next u ∧ u.dout = s.key

/-- R81, R112: the pseudo-instruction BLOCK128 k, b ends with DOUT = E_K(b), the value of initialize(b, k) and permute<40>. -/
def Obligations.Block128ComputesCipher : Prop :=
  ∀ (s : State) (k b : Block), s.fsm = .init →
    ∃ t seen, runCommands ((block128Lines k b).map assemble) s = some (t, seen)
      ∧ t.dout = join32 (permute 40 (initCipher b k)).s ∧ t.dout = blockCipher k b ∧ t.key = k ∧ t.fsm = .init ∧ t.err = s.err

/-! ### Field doubling and feedback (41_field_doubling.md, 42_feedback.md) -/

/-- R134 to R137: LDL, RDL, MUL2 and MUL3 in INIT. -/
def Obligations.MaskCommands : Prop :=
  ∀ s : State, s.fsm = .init →
    exec .ldl s = .next { s with lReg := ⟨s.din.extractLsb' 96 32, s.din.extractLsb' 64 32⟩ }
    ∧ exec .rdl s = .next { s with dout := s.lReg.hi ++ s.lReg.lo ++ 0#64 }
    ∧ (∃ t, exec .mul2 s = .next t ∧ t = { s with lReg := t.lReg }
        ∧ t.lReg.hi ++ t.lReg.lo = mulAlpha (s.lReg.hi ++ s.lReg.lo))
    ∧ (∃ t, exec .mul3 s = .next t ∧ t = { s with lReg := t.lReg }
        ∧ t.lReg.hi ++ t.lReg.lo = mulAlpha (s.lReg.hi ++ s.lReg.lo) ^^^ (s.lReg.hi ++ s.lReg.lo))

/-- R131: both branches of mul_alpha, and the branch-free form that hardware computes. -/
def Obligations.MulAlphaBranchFree : Prop :=
  ∀ v : Word64,
    (v.getLsbD 63 = true → mulAlpha v = (v <<< 1) ^^^ 0x1B#64)
    ∧ (v.getLsbD 63 = false → mulAlpha v = v <<< 1)
    ∧ mulAlpha v = (v <<< 1) ^^^ (0x1B#64 &&& (0#64 - (v.extractLsb' 63 1).setWidth 64))

/-- R133 (marked [derived] by the spec): both multiplications are linear over XOR, map 0 to 0, and are bijections of the
64-bit values. -/
def Obligations.DoublingLaws : Prop :=
  (∀ a b : Word64, mulAlpha (a ^^^ b) = mulAlpha a ^^^ mulAlpha b)
  ∧ (∀ a b : Word64, mulAlphaPlus1 (a ^^^ b) = mulAlphaPlus1 a ^^^ mulAlphaPlus1 b)
  ∧ mulAlpha 0#64 = 0#64 ∧ mulAlphaPlus1 0#64 = 0#64
  ∧ Function.Bijective mulAlpha ∧ Function.Bijective mulAlphaPlus1

/-- R142, R140: FBG in every state: DOUT takes the low half of din, then the high half rotated left by one. -/
def Obligations.FeedbackCommand : Prop :=
  ∀ s : State, exec .fbg s = .next { s with
    dout := s.din.extractLsb' 0 64 ++ (s.din.extractLsb' 64 63 ++ s.din.extractLsb' 127 1) }

/-- R141 (marked [derived] by the spec): G is linear over XOR, a bijection, fixes 0 and all ones, moves bit 127 to bit 0 and
bit 63 to bit 127. -/
def Obligations.FeedbackLaws : Prop :=
  (∀ a b : Block, feedback (a ^^^ b) = feedback a ^^^ feedback b)
  ∧ Function.Bijective feedback
  ∧ feedback 0#128 = 0#128 ∧ feedback (BitVec.allOnes 128) = BitVec.allOnes 128
  ∧ (∀ y : Block, (feedback y).getLsbD 0 = y.getLsbD 127 ∧ (feedback y).getLsbD 127 = y.getLsbD 63)

/-! ### The COFB state machine (43_cofb_fsm.md) -/

/-- R151, R152, with the byte order of R7 written out (byte i is bits 127-8i down to 120-8i): the bytes of pad(B, r) and
trunc(B, r), of the byte view, and of the block a buffer's bytes are placed in (R57). -/
def Obligations.PaddingBytes : Prop :=
  ∀ (b : Block) (r i : Nat), r ≤ 16 → i < 16 →
    (pad b r).extractLsb' (120 - 8 * i) 8
      = (if i < r then b.extractLsb' (120 - 8 * i) 8 else if i = r then 0x80#8 else 0x00#8)
    ∧ (trunc b r).extractLsb' (120 - 8 * i) 8 = (if i < r then b.extractLsb' (120 - 8 * i) 8 else 0x00#8)
    ∧ pad b 16 = b ∧ trunc b 16 = b
    ∧ byteOf b i = b.extractLsb' (120 - 8 * i) 8
    ∧ (∀ bytes : List Byte, (blockOfBytes bytes b).extractLsb' (120 - 8 * i) 8
        = (if h : i < bytes.length then bytes[i] else b.extractLsb' (120 - 8 * i) 8))

/-- R156, R157: LDLEN in INIT and RDLEN in every state. -/
def Obligations.LengthCommands : Prop :=
  ∀ s : State,
    (s.fsm = .init → exec .ldlen s = .next { s with dlen := s.din.extractLsb' 64 64, mlen := s.din.extractLsb' 0 64 })
    ∧ exec .rdlen s = .next { s with dout := s.adRem ++ s.msgRem }

/-- R158: START in INIT, in both directions and for every length; L takes the HIGH half of the new Y. -/
def Obligations.StartOpensSession : Prop :=
  ∀ (s : State) (dir : Dir), s.fsm = .init →
    exec (.start dir) s = .next { s with
      dir := dir, authDone := false, authOk := false
      sReg := (permute 40 (initCipher s.din s.key)).s, wReg := (permute 40 (initCipher s.din s.key)).w
      yReg := (permute 40 (initCipher s.din s.key)).s
      lReg := ⟨(permute 40 (initCipher s.din s.key)).s.w0, (permute 40 (initCipher s.din s.key)).s.w1⟩
      adRem := s.dlen, msgRem := s.mlen
      fsm := if s.dlen > 16#64 then .adIntermediate else .adFinal }

/-- R159: AD in AD_INTERMEDIATE absorbs din under the doubled mask and counts 16 bytes down. -/
def Obligations.IntermediateAd : Prop :=
  ∀ s : State, s.fsm = .adIntermediate → 16#64 ≤ s.adRem →
    let v : Word64 := mulAlpha (s.lReg.hi ++ s.lReg.lo)
    let x : Block := s.din ^^^ feedback (join32 s.yReg) ^^^ (v ++ 0#64)
    exec .ad s = .next { s with
      lReg := ⟨v.extractLsb' 32 32, v.extractLsb' 0 32⟩
      sReg := (encipher s.key x).s, wReg := (encipher s.key x).w, yReg := (encipher s.key x).s
      adRem := s.adRem - 16#64
      fsm := if s.adRem - 16#64 > 16#64 then .adIntermediate else .adFinal }

/-- R160, R161: AD in AD_FINAL pads the r = AD_REM bytes and absorbs them under the scheduled mask: one, two, three or four
mul_alpha_plus_1 steps. -/
def Obligations.FinalAd : Prop :=
  ∀ s : State, s.fsm = .adFinal → s.adRem ≤ 16#64 →
    let l : Word64 := s.lReg.hi ++ s.lReg.lo
    let v : Word64 :=
      if s.adRem = 16#64 then (if s.msgRem = 0#64 then mulAlphaPlus1 (mulAlphaPlus1 (mulAlphaPlus1 l)) else mulAlphaPlus1 l)
      else (if s.msgRem = 0#64 then mulAlphaPlus1 (mulAlphaPlus1 (mulAlphaPlus1 (mulAlphaPlus1 l)))
        else mulAlphaPlus1 (mulAlphaPlus1 l))
    let x : Block := pad s.din s.adRem.toNat ^^^ feedback (join32 s.yReg) ^^^ (v ++ 0#64)
    exec .ad s = .next { s with
      lReg := ⟨v.extractLsb' 32 32, v.extractLsb' 0 32⟩
      sReg := (encipher s.key x).s, wReg := (encipher s.key x).w, yReg := (encipher s.key x).s
      adRem := 0#64
      fsm := if s.msgRem = 0#64 then .tag else if s.msgRem > 16#64 then .msgIntermediate else .msgFinal }

/-- R162: MSG in MSG_INTERMEDIATE gives din ^ Yv in both directions and absorbs the PLAINTEXT under the doubled mask. -/
def Obligations.IntermediateMsg : Prop :=
  ∀ s : State, s.fsm = .msgIntermediate → 16#64 ≤ s.msgRem →
    let v : Word64 := mulAlpha (s.lReg.hi ++ s.lReg.lo)
    let p : Block := if s.dir = .encrypt then s.din else s.din ^^^ join32 s.yReg
    let x : Block := p ^^^ feedback (join32 s.yReg) ^^^ (v ++ 0#64)
    exec .msg s = .next { s with
      lReg := ⟨v.extractLsb' 32 32, v.extractLsb' 0 32⟩
      dout := s.din ^^^ join32 s.yReg
      sReg := (encipher s.key x).s, wReg := (encipher s.key x).w, yReg := (encipher s.key x).s
      msgRem := s.msgRem - 16#64
      fsm := if s.msgRem - 16#64 > 16#64 then .msgIntermediate else .msgFinal }

/-- R163: MSG in MSG_FINAL, r = MSG_REM: pad, output the r bytes, absorb the padded PLAINTEXT, in both directions. -/
def Obligations.FinalMsg : Prop :=
  ∀ s : State, s.fsm = .msgFinal → s.msgRem ≤ 16#64 →
    let r : Nat := s.msgRem.toNat
    let l : Word64 := s.lReg.hi ++ s.lReg.lo
    let v : Word64 := if r = 16 then mulAlphaPlus1 l else mulAlphaPlus1 (mulAlphaPlus1 l)
    let p : Block := if s.dir = .encrypt then pad s.din r else pad (trunc (s.din ^^^ join32 s.yReg) r) r
    let x : Block := p ^^^ feedback (join32 s.yReg) ^^^ (v ++ 0#64)
    exec .msg s = .next { s with
      lReg := ⟨v.extractLsb' 32 32, v.extractLsb' 0 32⟩
      dout := (if s.dir = .encrypt then trunc (pad s.din r ^^^ join32 s.yReg) r else trunc (s.din ^^^ join32 s.yReg) r)
      sReg := (encipher s.key x).s, wReg := (encipher s.key x).w, yReg := (encipher s.key x).s
      msgRem := 0#64
      fsm := .tag }

/-- Log 7 (DEDUCED; R170 says that no such state occurs from reset on): where AD and MSG stop, by name: a counter below 16 in an
intermediate block, above 16 in a final one. -/
def Obligations.CounterOutOfRangeStops : Prop :=
  ∀ s : State,
    (s.fsm = .adIntermediate → s.adRem < 16#64 → exec .ad s = .fault .lengthUnderflow)
    ∧ (s.fsm = .adFinal → 16#64 < s.adRem → exec .ad s = .fault .padRange)
    ∧ (s.fsm = .msgIntermediate → s.msgRem < 16#64 → exec .msg s = .fault .lengthUnderflow)
    ∧ (s.fsm = .msgFinal → 16#64 < s.msgRem → exec .msg s = .fault .padRange)

/-- R164, R165: TAG in the TAG state of an encryption session gives Y, big-endian, scrubs and closes. -/
def Obligations.TagClosesSession : Prop :=
  ∀ s : State, s.fsm = .tag → s.dir = .encrypt →
    exec .tag s = .next { s with
      dout := s.yReg.w0 ++ s.yReg.w1 ++ s.yReg.w2 ++ s.yReg.w3
      sReg := ⟨0#32, 0#32, 0#32, 0#32⟩, wReg := ⟨0#16, 0#16, 0#16, 0#16, 0#16, 0#16, 0#16, 0#16⟩
      yReg := ⟨0#32, 0#32, 0#32, 0#32⟩, lReg := ⟨0#32, 0#32⟩
      adRem := 0#64, msgRem := 0#64, fsm := .init }

/-- R190, R191, R165: VERIFY in the TAG state of a decryption session: AUTH_OK is whether the received tag equals Y, DOUT is
0, and the session is scrubbed and closed; the error record is not written (R215). -/
def Obligations.VerifyClosesSession : Prop :=
  ∀ s : State, s.fsm = .tag → s.dir = .decrypt →
    exec .verify s = .next { s with
      authDone := true, authOk := decide (s.din = s.yReg.w0 ++ s.yReg.w1 ++ s.yReg.w2 ++ s.yReg.w3)
      dout := 0#128
      sReg := ⟨0#32, 0#32, 0#32, 0#32⟩, wReg := ⟨0#16, 0#16, 0#16, 0#16, 0#16, 0#16, 0#16, 0#16⟩
      yReg := ⟨0#32, 0#32, 0#32, 0#32⟩, lReg := ⟨0#32, 0#32⟩
      adRem := 0#64, msgRem := 0#64, fsm := .init }

/-- R191: the accumulating comparison is true exactly when the tags are equal. -/
def Obligations.CtEqualIsEquality : Prop := ∀ t t' : Block, ctEqual t t' = true ↔ t = t'

/-- R193 (marked [derived] by the spec): everything VERIFY leaves but AUTH_OK is the same whatever the received tag is. -/
def Obligations.VerifyRevealsOneBit : Prop :=
  ∀ (s t u : State) (d : Block), exec .verify s = .next t → exec .verify { s with din := d } = .next u →
    u = { t with din := d, authOk := u.authOk }

/-- R169 (marked [derived] by the spec): the FSM after each command, row by row; every other pair leaves it. -/
def Obligations.FsmTransitions : Prop :=
  ∀ (i : Instr) (s t : State), exec i s = .next t →
    t.fsm = (match i, s.fsm with
      | .start _, .init => if s.dlen > 16#64 then .adIntermediate else .adFinal
      | .ad, .adIntermediate => if s.adRem - 16#64 > 16#64 then .adIntermediate else .adFinal
      | .ad, .adFinal => if s.msgRem = 0#64 then .tag else if s.msgRem > 16#64 then .msgIntermediate else .msgFinal
      | .msg, .msgIntermediate => if s.msgRem - 16#64 > 16#64 then .msgIntermediate else .msgFinal
      | .msg, .msgFinal => .tag
      | .tag, .tag => if s.dir = .encrypt then .init else .tag
      | .verify, .tag => if s.dir = .decrypt then .init else .tag
      | .abort, _ => .init
      | _, f => f)

/-! ### Who writes what (10_state.md) and what stays hidden -/

/-- R20 to R27: a data register changes only in the commands the spec lists for it. -/
def Obligations.DataRegisterWriters : Prop :=
  ∀ (i : Instr) (s t : State), exec i s = .next t →
    (t.key ≠ s.key → i = .ldkey)
    ∧ (t.dlen ≠ s.dlen ∨ t.mlen ≠ s.mlen → i = .ldlen)
    ∧ (t.sReg ≠ s.sReg ∨ t.wReg ≠ s.wReg →
        i ∈ [Instr.bcinit, .ad, .msg, .tag, .verify, .abort] ∨ (∃ r, i = .bcperm r) ∨ ∃ d, i = .start d)
    ∧ (t.yReg ≠ s.yReg → i ∈ [Instr.ad, .msg, .tag, .verify, .abort] ∨ ∃ d, i = .start d)
    ∧ (t.lReg ≠ s.lReg → i ∈ [Instr.ldl, .mul2, .mul3, .ad, .msg, .tag, .verify, .abort] ∨ ∃ d, i = .start d)
    ∧ (t.adRem ≠ s.adRem → i ∈ [Instr.ad, .tag, .verify, .abort] ∨ ∃ d, i = .start d)
    ∧ (t.msgRem ≠ s.msgRem → i ∈ [Instr.msg, .tag, .verify, .abort] ∨ ∃ d, i = .start d)
    ∧ (t.dout ≠ s.dout → i ∈ [Instr.rderr, .rdlen, .rds, .rdw, .rdl, .fbg, .msg, .tag, .verify, .abort])

/-- R28 to R31: a control register changes only in the commands the spec lists for it; the error record only by CLRERR or by a
rejection while ERR = 0; and no command touches BUSY or the handshake. -/
def Obligations.ControlRegisterWriters : Prop :=
  ∀ (i : Instr) (s t : State), exec i s = .next t →
    (t.fsm ≠ s.fsm → i ∈ [Instr.ad, .msg, .tag, .verify, .abort] ∨ ∃ d, i = .start d)
    ∧ (t.dir ≠ s.dir → ∃ d, i = .start d)
    ∧ (t.authDone ≠ s.authDone ∨ t.authOk ≠ s.authOk → i = .verify ∨ ∃ d, i = .start d)
    ∧ (t.err ≠ s.err ∨ t.errCode ≠ s.errCode ∨ t.errCmd ≠ s.errCmd →
        i = .clrerr ∨ (s.err = false ∧ ∃ c, failedCheck i s = some c ∧ t = { s with err := true, errCode := c, errCmd := s.cmd }))
    ∧ t.busy = s.busy ∧ t.cmd = s.cmd ∧ t.din = s.din ∧ t.wait = s.wait ∧ t.lat = s.lat ∧ t.host = s.host

/-- R53, R57, R82: din is not read where the operand is ignored, nor LDL's low half, nor lanes r..15 of a final block; and
MSG's output is 0 in those lanes. -/
def Obligations.IgnoredOperands : Prop :=
  ∀ (s : State) (d : Block),
    (∀ i ∈ [Instr.nop, .clrerr, .abort, .rderr, .rdlen, .rds, .rdw, .rdl, .mul2, .mul3, .tag],
      exec i { s with din := d } = mapNext (fun t => { t with din := d }) (exec i s))
    ∧ (∀ r, exec (.bcperm r) { s with din := d } = mapNext (fun t => { t with din := d }) (exec (.bcperm r) s))
    ∧ (d.extractLsb' 64 64 = s.din.extractLsb' 64 64 →
        exec .ldl { s with din := d } = mapNext (fun t => { t with din := d }) (exec .ldl s))
    ∧ (s.fsm = .adFinal → (∀ k, k < s.adRem.toNat → byteOf d k = byteOf s.din k) →
        exec .ad { s with din := d } = mapNext (fun t => { t with din := d }) (exec .ad s))
    ∧ (s.fsm = .msgFinal → (∀ k, k < s.msgRem.toNat → byteOf d k = byteOf s.din k) →
        exec .msg { s with din := d } = mapNext (fun t => { t with din := d }) (exec .msg s))
    ∧ (s.fsm = .msgFinal → ∀ t, exec .msg s = .next t → ∀ k, s.msgRem.toNat ≤ k → k < 16 → byteOf t.dout k = 0x00#8)

/-- R22, R222: no command copies KEY to DOUT, and inside a session no command shows S, W or L. -/
def Obligations.SecretsStayHidden : Prop :=
  ∀ (i : Instr) (s t u : State) (k : Block) (a : Words4) (b : KeyWords) (l : MaskWords), exec i s = .next t →
    (exec i { s with key := k } = .next u → u.dout = t.dout)
    ∧ (s.fsm ≠ .init → exec i { s with sReg := a, wReg := b, lReg := l } = .next u → u.dout = t.dout)

/-- R221: in the TAG state of a decryption session no command's DOUT depends on Y, and every command either leaves Y where it
was with the session in that state or clears it. -/
def Obligations.CandidateTagHidden : Prop :=
  ∀ (i : Instr) (s t u : State) (y : Words4), s.fsm = .tag → s.dir = .decrypt →
    exec i s = .next t → exec i { s with yReg := y } = .next u →
    u.dout = t.dout
    ∧ ((t.yReg = s.yReg ∧ t.fsm = .tag ∧ t.dir = .decrypt) ∨ t.yReg = ⟨0#32, 0#32, 0#32, 0#32⟩)

/-! ### What a session computes (43_cofb_fsm.md R166 to R168) -/

/-- R168 (marked [derived] by the spec), R155: an encryption session of n_A AD and n_M MSG commands ends in the TAG state; its
MSG outputs are the ciphertext of COFB_ENC and TAG gives its tag, whatever the ignored lanes hold. -/
def Obligations.SessionEncrypts : Prop :=
  ∀ (s : State) (nonce fill : Block) (a m : List Byte), s.fsm = .init →
    a.length < 2 ^ 64 → m.length < 2 ^ 64 → s.dlen = BitVec.ofNat 64 a.length → s.mlen = BitVec.ofNat 64 m.length →
    ∃ t seen u, runCommands (sessionCommands .encrypt nonce a m fill) s = some (t, seen)
      ∧ t.fsm = .tag
      ∧ collectOutput (msgBlocks m) (seen.drop (1 + (adBlocks a).length)) = (cofbEnc s.key nonce a m).1
      ∧ command (encode .tag) fill t = .next u
      ∧ u.dout = (cofbEnc s.key nonce a m).2 ∧ u.fsm = .init ∧ u.err = s.err

/-- R168 (marked [derived] by the spec), R155: a decryption session gives the plaintext of COFB_DEC as its MSG outputs, and
VERIFY T gives its result. -/
def Obligations.SessionDecrypts : Prop :=
  ∀ (s : State) (nonce fill tag : Block) (a c : List Byte), s.fsm = .init →
    a.length < 2 ^ 64 → c.length < 2 ^ 64 → s.dlen = BitVec.ofNat 64 a.length → s.mlen = BitVec.ofNat 64 c.length →
    ∃ t seen u, runCommands (sessionCommands .decrypt nonce a c fill) s = some (t, seen)
      ∧ t.fsm = .tag
      ∧ collectOutput (msgBlocks c) (seen.drop (1 + (adBlocks a).length)) = (cofbDec s.key nonce a c tag).2
      ∧ command (encode .verify) tag t = .next u
      ∧ u.authDone = true ∧ u.authOk = (cofbDec s.key nonce a c tag).1
      ∧ u.dout = 0#128 ∧ u.fsm = .init ∧ u.err = s.err

/-- 95_test_vectors.md section 1.4: decryption of an encryption's outputs accepts and returns the message, and the ciphertext
is exactly as long as it. -/
def Obligations.DecryptionInvertsEncryption : Prop :=
  ∀ (key nonce : Block) (a m : List Byte),
    cofbDec key nonce a (cofbEnc key nonce a m).1 (cofbEnc key nonce a m).2 = (true, m)
    ∧ (cofbEnc key nonce a m).1.length = m.length
end

