-- ==== Sys2Proof/Laws/State.lean ====
section
/-! SUPPORT. One lemma per field per register write: what the field holds after it. -/

namespace Sys2Proof.Machine

@[simp] theorem writeCipher_sReg (c : CipherState) (s : State) : (writeCipher c s).sReg = c.s := rfl
@[simp] theorem writeCipher_wReg (c : CipherState) (s : State) : (writeCipher c s).wReg = c.w := rfl
@[simp] theorem writeCipher_key (c : CipherState) (s : State) : (writeCipher c s).key = s.key := rfl
@[simp] theorem writeCipher_yReg (c : CipherState) (s : State) : (writeCipher c s).yReg = s.yReg := rfl
@[simp] theorem writeCipher_lReg (c : CipherState) (s : State) : (writeCipher c s).lReg = s.lReg := rfl
@[simp] theorem writeCipher_dlen (c : CipherState) (s : State) : (writeCipher c s).dlen = s.dlen := rfl
@[simp] theorem writeCipher_mlen (c : CipherState) (s : State) : (writeCipher c s).mlen = s.mlen := rfl
@[simp] theorem writeCipher_adRem (c : CipherState) (s : State) : (writeCipher c s).adRem = s.adRem := rfl
@[simp] theorem writeCipher_msgRem (c : CipherState) (s : State) : (writeCipher c s).msgRem = s.msgRem := rfl
@[simp] theorem writeCipher_dout (c : CipherState) (s : State) : (writeCipher c s).dout = s.dout := rfl
@[simp] theorem writeCipher_fsm (c : CipherState) (s : State) : (writeCipher c s).fsm = s.fsm := rfl
@[simp] theorem writeCipher_dir (c : CipherState) (s : State) : (writeCipher c s).dir = s.dir := rfl
@[simp] theorem writeCipher_authDone (c : CipherState) (s : State) : (writeCipher c s).authDone = s.authDone := rfl
@[simp] theorem writeCipher_authOk (c : CipherState) (s : State) : (writeCipher c s).authOk = s.authOk := rfl
@[simp] theorem writeCipher_err (c : CipherState) (s : State) : (writeCipher c s).err = s.err := rfl
@[simp] theorem writeCipher_errCode (c : CipherState) (s : State) : (writeCipher c s).errCode = s.errCode := rfl
@[simp] theorem writeCipher_errCmd (c : CipherState) (s : State) : (writeCipher c s).errCmd = s.errCmd := rfl
@[simp] theorem writeCipher_busy (c : CipherState) (s : State) : (writeCipher c s).busy = s.busy := rfl
@[simp] theorem writeCipher_cmd (c : CipherState) (s : State) : (writeCipher c s).cmd = s.cmd := rfl
@[simp] theorem writeCipher_din (c : CipherState) (s : State) : (writeCipher c s).din = s.din := rfl
@[simp] theorem writeCipher_wait (c : CipherState) (s : State) : (writeCipher c s).wait = s.wait := rfl
@[simp] theorem writeCipher_lat (c : CipherState) (s : State) : (writeCipher c s).lat = s.lat := rfl
@[simp] theorem writeCipher_host (c : CipherState) (s : State) : (writeCipher c s).host = s.host := rfl

@[simp] theorem writeKey_sReg (k : Block) (s : State) : (writeKey k s).sReg = s.sReg := rfl
@[simp] theorem writeKey_wReg (k : Block) (s : State) : (writeKey k s).wReg = s.wReg := rfl
@[simp] theorem writeKey_key (k : Block) (s : State) : (writeKey k s).key = k := rfl
@[simp] theorem writeKey_yReg (k : Block) (s : State) : (writeKey k s).yReg = s.yReg := rfl
@[simp] theorem writeKey_lReg (k : Block) (s : State) : (writeKey k s).lReg = s.lReg := rfl
@[simp] theorem writeKey_dlen (k : Block) (s : State) : (writeKey k s).dlen = s.dlen := rfl
@[simp] theorem writeKey_mlen (k : Block) (s : State) : (writeKey k s).mlen = s.mlen := rfl
@[simp] theorem writeKey_adRem (k : Block) (s : State) : (writeKey k s).adRem = s.adRem := rfl
@[simp] theorem writeKey_msgRem (k : Block) (s : State) : (writeKey k s).msgRem = s.msgRem := rfl
@[simp] theorem writeKey_dout (k : Block) (s : State) : (writeKey k s).dout = s.dout := rfl
@[simp] theorem writeKey_fsm (k : Block) (s : State) : (writeKey k s).fsm = s.fsm := rfl
@[simp] theorem writeKey_dir (k : Block) (s : State) : (writeKey k s).dir = s.dir := rfl
@[simp] theorem writeKey_authDone (k : Block) (s : State) : (writeKey k s).authDone = s.authDone := rfl
@[simp] theorem writeKey_authOk (k : Block) (s : State) : (writeKey k s).authOk = s.authOk := rfl
@[simp] theorem writeKey_err (k : Block) (s : State) : (writeKey k s).err = s.err := rfl
@[simp] theorem writeKey_errCode (k : Block) (s : State) : (writeKey k s).errCode = s.errCode := rfl
@[simp] theorem writeKey_errCmd (k : Block) (s : State) : (writeKey k s).errCmd = s.errCmd := rfl
@[simp] theorem writeKey_busy (k : Block) (s : State) : (writeKey k s).busy = s.busy := rfl
@[simp] theorem writeKey_cmd (k : Block) (s : State) : (writeKey k s).cmd = s.cmd := rfl
@[simp] theorem writeKey_din (k : Block) (s : State) : (writeKey k s).din = s.din := rfl
@[simp] theorem writeKey_wait (k : Block) (s : State) : (writeKey k s).wait = s.wait := rfl
@[simp] theorem writeKey_lat (k : Block) (s : State) : (writeKey k s).lat = s.lat := rfl
@[simp] theorem writeKey_host (k : Block) (s : State) : (writeKey k s).host = s.host := rfl

@[simp] theorem writeY_sReg (x : Words4) (s : State) : (writeY x s).sReg = s.sReg := rfl
@[simp] theorem writeY_wReg (x : Words4) (s : State) : (writeY x s).wReg = s.wReg := rfl
@[simp] theorem writeY_key (x : Words4) (s : State) : (writeY x s).key = s.key := rfl
@[simp] theorem writeY_yReg (x : Words4) (s : State) : (writeY x s).yReg = x := rfl
@[simp] theorem writeY_lReg (x : Words4) (s : State) : (writeY x s).lReg = s.lReg := rfl
@[simp] theorem writeY_dlen (x : Words4) (s : State) : (writeY x s).dlen = s.dlen := rfl
@[simp] theorem writeY_mlen (x : Words4) (s : State) : (writeY x s).mlen = s.mlen := rfl
@[simp] theorem writeY_adRem (x : Words4) (s : State) : (writeY x s).adRem = s.adRem := rfl
@[simp] theorem writeY_msgRem (x : Words4) (s : State) : (writeY x s).msgRem = s.msgRem := rfl
@[simp] theorem writeY_dout (x : Words4) (s : State) : (writeY x s).dout = s.dout := rfl
@[simp] theorem writeY_fsm (x : Words4) (s : State) : (writeY x s).fsm = s.fsm := rfl
@[simp] theorem writeY_dir (x : Words4) (s : State) : (writeY x s).dir = s.dir := rfl
@[simp] theorem writeY_authDone (x : Words4) (s : State) : (writeY x s).authDone = s.authDone := rfl
@[simp] theorem writeY_authOk (x : Words4) (s : State) : (writeY x s).authOk = s.authOk := rfl
@[simp] theorem writeY_err (x : Words4) (s : State) : (writeY x s).err = s.err := rfl
@[simp] theorem writeY_errCode (x : Words4) (s : State) : (writeY x s).errCode = s.errCode := rfl
@[simp] theorem writeY_errCmd (x : Words4) (s : State) : (writeY x s).errCmd = s.errCmd := rfl
@[simp] theorem writeY_busy (x : Words4) (s : State) : (writeY x s).busy = s.busy := rfl
@[simp] theorem writeY_cmd (x : Words4) (s : State) : (writeY x s).cmd = s.cmd := rfl
@[simp] theorem writeY_din (x : Words4) (s : State) : (writeY x s).din = s.din := rfl
@[simp] theorem writeY_wait (x : Words4) (s : State) : (writeY x s).wait = s.wait := rfl
@[simp] theorem writeY_lat (x : Words4) (s : State) : (writeY x s).lat = s.lat := rfl
@[simp] theorem writeY_host (x : Words4) (s : State) : (writeY x s).host = s.host := rfl

@[simp] theorem writeMask_sReg (v : Word64) (s : State) : (writeMask v s).sReg = s.sReg := rfl
@[simp] theorem writeMask_wReg (v : Word64) (s : State) : (writeMask v s).wReg = s.wReg := rfl
@[simp] theorem writeMask_key (v : Word64) (s : State) : (writeMask v s).key = s.key := rfl
@[simp] theorem writeMask_yReg (v : Word64) (s : State) : (writeMask v s).yReg = s.yReg := rfl
@[simp] theorem writeMask_lReg (v : Word64) (s : State) : (writeMask v s).lReg = maskWords v := rfl
@[simp] theorem writeMask_dlen (v : Word64) (s : State) : (writeMask v s).dlen = s.dlen := rfl
@[simp] theorem writeMask_mlen (v : Word64) (s : State) : (writeMask v s).mlen = s.mlen := rfl
@[simp] theorem writeMask_adRem (v : Word64) (s : State) : (writeMask v s).adRem = s.adRem := rfl
@[simp] theorem writeMask_msgRem (v : Word64) (s : State) : (writeMask v s).msgRem = s.msgRem := rfl
@[simp] theorem writeMask_dout (v : Word64) (s : State) : (writeMask v s).dout = s.dout := rfl
@[simp] theorem writeMask_fsm (v : Word64) (s : State) : (writeMask v s).fsm = s.fsm := rfl
@[simp] theorem writeMask_dir (v : Word64) (s : State) : (writeMask v s).dir = s.dir := rfl
@[simp] theorem writeMask_authDone (v : Word64) (s : State) : (writeMask v s).authDone = s.authDone := rfl
@[simp] theorem writeMask_authOk (v : Word64) (s : State) : (writeMask v s).authOk = s.authOk := rfl
@[simp] theorem writeMask_err (v : Word64) (s : State) : (writeMask v s).err = s.err := rfl
@[simp] theorem writeMask_errCode (v : Word64) (s : State) : (writeMask v s).errCode = s.errCode := rfl
@[simp] theorem writeMask_errCmd (v : Word64) (s : State) : (writeMask v s).errCmd = s.errCmd := rfl
@[simp] theorem writeMask_busy (v : Word64) (s : State) : (writeMask v s).busy = s.busy := rfl
@[simp] theorem writeMask_cmd (v : Word64) (s : State) : (writeMask v s).cmd = s.cmd := rfl
@[simp] theorem writeMask_din (v : Word64) (s : State) : (writeMask v s).din = s.din := rfl
@[simp] theorem writeMask_wait (v : Word64) (s : State) : (writeMask v s).wait = s.wait := rfl
@[simp] theorem writeMask_lat (v : Word64) (s : State) : (writeMask v s).lat = s.lat := rfl
@[simp] theorem writeMask_host (v : Word64) (s : State) : (writeMask v s).host = s.host := rfl

@[simp] theorem writeLengths_sReg (d m : Word64) (s : State) : (writeLengths d m s).sReg = s.sReg := rfl
@[simp] theorem writeLengths_wReg (d m : Word64) (s : State) : (writeLengths d m s).wReg = s.wReg := rfl
@[simp] theorem writeLengths_key (d m : Word64) (s : State) : (writeLengths d m s).key = s.key := rfl
@[simp] theorem writeLengths_yReg (d m : Word64) (s : State) : (writeLengths d m s).yReg = s.yReg := rfl
@[simp] theorem writeLengths_lReg (d m : Word64) (s : State) : (writeLengths d m s).lReg = s.lReg := rfl
@[simp] theorem writeLengths_dlen (d m : Word64) (s : State) : (writeLengths d m s).dlen = d := rfl
@[simp] theorem writeLengths_mlen (d m : Word64) (s : State) : (writeLengths d m s).mlen = m := rfl
@[simp] theorem writeLengths_adRem (d m : Word64) (s : State) : (writeLengths d m s).adRem = s.adRem := rfl
@[simp] theorem writeLengths_msgRem (d m : Word64) (s : State) : (writeLengths d m s).msgRem = s.msgRem := rfl
@[simp] theorem writeLengths_dout (d m : Word64) (s : State) : (writeLengths d m s).dout = s.dout := rfl
@[simp] theorem writeLengths_fsm (d m : Word64) (s : State) : (writeLengths d m s).fsm = s.fsm := rfl
@[simp] theorem writeLengths_dir (d m : Word64) (s : State) : (writeLengths d m s).dir = s.dir := rfl
@[simp] theorem writeLengths_authDone (d m : Word64) (s : State) : (writeLengths d m s).authDone = s.authDone := rfl
@[simp] theorem writeLengths_authOk (d m : Word64) (s : State) : (writeLengths d m s).authOk = s.authOk := rfl
@[simp] theorem writeLengths_err (d m : Word64) (s : State) : (writeLengths d m s).err = s.err := rfl
@[simp] theorem writeLengths_errCode (d m : Word64) (s : State) : (writeLengths d m s).errCode = s.errCode := rfl
@[simp] theorem writeLengths_errCmd (d m : Word64) (s : State) : (writeLengths d m s).errCmd = s.errCmd := rfl
@[simp] theorem writeLengths_busy (d m : Word64) (s : State) : (writeLengths d m s).busy = s.busy := rfl
@[simp] theorem writeLengths_cmd (d m : Word64) (s : State) : (writeLengths d m s).cmd = s.cmd := rfl
@[simp] theorem writeLengths_din (d m : Word64) (s : State) : (writeLengths d m s).din = s.din := rfl
@[simp] theorem writeLengths_wait (d m : Word64) (s : State) : (writeLengths d m s).wait = s.wait := rfl
@[simp] theorem writeLengths_lat (d m : Word64) (s : State) : (writeLengths d m s).lat = s.lat := rfl
@[simp] theorem writeLengths_host (d m : Word64) (s : State) : (writeLengths d m s).host = s.host := rfl

@[simp] theorem writeAdRem_sReg (a : Word64) (s : State) : (writeAdRem a s).sReg = s.sReg := rfl
@[simp] theorem writeAdRem_wReg (a : Word64) (s : State) : (writeAdRem a s).wReg = s.wReg := rfl
@[simp] theorem writeAdRem_key (a : Word64) (s : State) : (writeAdRem a s).key = s.key := rfl
@[simp] theorem writeAdRem_yReg (a : Word64) (s : State) : (writeAdRem a s).yReg = s.yReg := rfl
@[simp] theorem writeAdRem_lReg (a : Word64) (s : State) : (writeAdRem a s).lReg = s.lReg := rfl
@[simp] theorem writeAdRem_dlen (a : Word64) (s : State) : (writeAdRem a s).dlen = s.dlen := rfl
@[simp] theorem writeAdRem_mlen (a : Word64) (s : State) : (writeAdRem a s).mlen = s.mlen := rfl
@[simp] theorem writeAdRem_adRem (a : Word64) (s : State) : (writeAdRem a s).adRem = a := rfl
@[simp] theorem writeAdRem_msgRem (a : Word64) (s : State) : (writeAdRem a s).msgRem = s.msgRem := rfl
@[simp] theorem writeAdRem_dout (a : Word64) (s : State) : (writeAdRem a s).dout = s.dout := rfl
@[simp] theorem writeAdRem_fsm (a : Word64) (s : State) : (writeAdRem a s).fsm = s.fsm := rfl
@[simp] theorem writeAdRem_dir (a : Word64) (s : State) : (writeAdRem a s).dir = s.dir := rfl
@[simp] theorem writeAdRem_authDone (a : Word64) (s : State) : (writeAdRem a s).authDone = s.authDone := rfl
@[simp] theorem writeAdRem_authOk (a : Word64) (s : State) : (writeAdRem a s).authOk = s.authOk := rfl
@[simp] theorem writeAdRem_err (a : Word64) (s : State) : (writeAdRem a s).err = s.err := rfl
@[simp] theorem writeAdRem_errCode (a : Word64) (s : State) : (writeAdRem a s).errCode = s.errCode := rfl
@[simp] theorem writeAdRem_errCmd (a : Word64) (s : State) : (writeAdRem a s).errCmd = s.errCmd := rfl
@[simp] theorem writeAdRem_busy (a : Word64) (s : State) : (writeAdRem a s).busy = s.busy := rfl
@[simp] theorem writeAdRem_cmd (a : Word64) (s : State) : (writeAdRem a s).cmd = s.cmd := rfl
@[simp] theorem writeAdRem_din (a : Word64) (s : State) : (writeAdRem a s).din = s.din := rfl
@[simp] theorem writeAdRem_wait (a : Word64) (s : State) : (writeAdRem a s).wait = s.wait := rfl
@[simp] theorem writeAdRem_lat (a : Word64) (s : State) : (writeAdRem a s).lat = s.lat := rfl
@[simp] theorem writeAdRem_host (a : Word64) (s : State) : (writeAdRem a s).host = s.host := rfl

@[simp] theorem writeMsgRem_sReg (m : Word64) (s : State) : (writeMsgRem m s).sReg = s.sReg := rfl
@[simp] theorem writeMsgRem_wReg (m : Word64) (s : State) : (writeMsgRem m s).wReg = s.wReg := rfl
@[simp] theorem writeMsgRem_key (m : Word64) (s : State) : (writeMsgRem m s).key = s.key := rfl
@[simp] theorem writeMsgRem_yReg (m : Word64) (s : State) : (writeMsgRem m s).yReg = s.yReg := rfl
@[simp] theorem writeMsgRem_lReg (m : Word64) (s : State) : (writeMsgRem m s).lReg = s.lReg := rfl
@[simp] theorem writeMsgRem_dlen (m : Word64) (s : State) : (writeMsgRem m s).dlen = s.dlen := rfl
@[simp] theorem writeMsgRem_mlen (m : Word64) (s : State) : (writeMsgRem m s).mlen = s.mlen := rfl
@[simp] theorem writeMsgRem_adRem (m : Word64) (s : State) : (writeMsgRem m s).adRem = s.adRem := rfl
@[simp] theorem writeMsgRem_msgRem (m : Word64) (s : State) : (writeMsgRem m s).msgRem = m := rfl
@[simp] theorem writeMsgRem_dout (m : Word64) (s : State) : (writeMsgRem m s).dout = s.dout := rfl
@[simp] theorem writeMsgRem_fsm (m : Word64) (s : State) : (writeMsgRem m s).fsm = s.fsm := rfl
@[simp] theorem writeMsgRem_dir (m : Word64) (s : State) : (writeMsgRem m s).dir = s.dir := rfl
@[simp] theorem writeMsgRem_authDone (m : Word64) (s : State) : (writeMsgRem m s).authDone = s.authDone := rfl
@[simp] theorem writeMsgRem_authOk (m : Word64) (s : State) : (writeMsgRem m s).authOk = s.authOk := rfl
@[simp] theorem writeMsgRem_err (m : Word64) (s : State) : (writeMsgRem m s).err = s.err := rfl
@[simp] theorem writeMsgRem_errCode (m : Word64) (s : State) : (writeMsgRem m s).errCode = s.errCode := rfl
@[simp] theorem writeMsgRem_errCmd (m : Word64) (s : State) : (writeMsgRem m s).errCmd = s.errCmd := rfl
@[simp] theorem writeMsgRem_busy (m : Word64) (s : State) : (writeMsgRem m s).busy = s.busy := rfl
@[simp] theorem writeMsgRem_cmd (m : Word64) (s : State) : (writeMsgRem m s).cmd = s.cmd := rfl
@[simp] theorem writeMsgRem_din (m : Word64) (s : State) : (writeMsgRem m s).din = s.din := rfl
@[simp] theorem writeMsgRem_wait (m : Word64) (s : State) : (writeMsgRem m s).wait = s.wait := rfl
@[simp] theorem writeMsgRem_lat (m : Word64) (s : State) : (writeMsgRem m s).lat = s.lat := rfl
@[simp] theorem writeMsgRem_host (m : Word64) (s : State) : (writeMsgRem m s).host = s.host := rfl

@[simp] theorem writeDout_sReg (d : Block) (s : State) : (writeDout d s).sReg = s.sReg := rfl
@[simp] theorem writeDout_wReg (d : Block) (s : State) : (writeDout d s).wReg = s.wReg := rfl
@[simp] theorem writeDout_key (d : Block) (s : State) : (writeDout d s).key = s.key := rfl
@[simp] theorem writeDout_yReg (d : Block) (s : State) : (writeDout d s).yReg = s.yReg := rfl
@[simp] theorem writeDout_lReg (d : Block) (s : State) : (writeDout d s).lReg = s.lReg := rfl
@[simp] theorem writeDout_dlen (d : Block) (s : State) : (writeDout d s).dlen = s.dlen := rfl
@[simp] theorem writeDout_mlen (d : Block) (s : State) : (writeDout d s).mlen = s.mlen := rfl
@[simp] theorem writeDout_adRem (d : Block) (s : State) : (writeDout d s).adRem = s.adRem := rfl
@[simp] theorem writeDout_msgRem (d : Block) (s : State) : (writeDout d s).msgRem = s.msgRem := rfl
@[simp] theorem writeDout_dout (d : Block) (s : State) : (writeDout d s).dout = d := rfl
@[simp] theorem writeDout_fsm (d : Block) (s : State) : (writeDout d s).fsm = s.fsm := rfl
@[simp] theorem writeDout_dir (d : Block) (s : State) : (writeDout d s).dir = s.dir := rfl
@[simp] theorem writeDout_authDone (d : Block) (s : State) : (writeDout d s).authDone = s.authDone := rfl
@[simp] theorem writeDout_authOk (d : Block) (s : State) : (writeDout d s).authOk = s.authOk := rfl
@[simp] theorem writeDout_err (d : Block) (s : State) : (writeDout d s).err = s.err := rfl
@[simp] theorem writeDout_errCode (d : Block) (s : State) : (writeDout d s).errCode = s.errCode := rfl
@[simp] theorem writeDout_errCmd (d : Block) (s : State) : (writeDout d s).errCmd = s.errCmd := rfl
@[simp] theorem writeDout_busy (d : Block) (s : State) : (writeDout d s).busy = s.busy := rfl
@[simp] theorem writeDout_cmd (d : Block) (s : State) : (writeDout d s).cmd = s.cmd := rfl
@[simp] theorem writeDout_din (d : Block) (s : State) : (writeDout d s).din = s.din := rfl
@[simp] theorem writeDout_wait (d : Block) (s : State) : (writeDout d s).wait = s.wait := rfl
@[simp] theorem writeDout_lat (d : Block) (s : State) : (writeDout d s).lat = s.lat := rfl
@[simp] theorem writeDout_host (d : Block) (s : State) : (writeDout d s).host = s.host := rfl

@[simp] theorem writeFsm_sReg (f : Fsm) (s : State) : (writeFsm f s).sReg = s.sReg := rfl
@[simp] theorem writeFsm_wReg (f : Fsm) (s : State) : (writeFsm f s).wReg = s.wReg := rfl
@[simp] theorem writeFsm_key (f : Fsm) (s : State) : (writeFsm f s).key = s.key := rfl
@[simp] theorem writeFsm_yReg (f : Fsm) (s : State) : (writeFsm f s).yReg = s.yReg := rfl
@[simp] theorem writeFsm_lReg (f : Fsm) (s : State) : (writeFsm f s).lReg = s.lReg := rfl
@[simp] theorem writeFsm_dlen (f : Fsm) (s : State) : (writeFsm f s).dlen = s.dlen := rfl
@[simp] theorem writeFsm_mlen (f : Fsm) (s : State) : (writeFsm f s).mlen = s.mlen := rfl
@[simp] theorem writeFsm_adRem (f : Fsm) (s : State) : (writeFsm f s).adRem = s.adRem := rfl
@[simp] theorem writeFsm_msgRem (f : Fsm) (s : State) : (writeFsm f s).msgRem = s.msgRem := rfl
@[simp] theorem writeFsm_dout (f : Fsm) (s : State) : (writeFsm f s).dout = s.dout := rfl
@[simp] theorem writeFsm_fsm (f : Fsm) (s : State) : (writeFsm f s).fsm = f := rfl
@[simp] theorem writeFsm_dir (f : Fsm) (s : State) : (writeFsm f s).dir = s.dir := rfl
@[simp] theorem writeFsm_authDone (f : Fsm) (s : State) : (writeFsm f s).authDone = s.authDone := rfl
@[simp] theorem writeFsm_authOk (f : Fsm) (s : State) : (writeFsm f s).authOk = s.authOk := rfl
@[simp] theorem writeFsm_err (f : Fsm) (s : State) : (writeFsm f s).err = s.err := rfl
@[simp] theorem writeFsm_errCode (f : Fsm) (s : State) : (writeFsm f s).errCode = s.errCode := rfl
@[simp] theorem writeFsm_errCmd (f : Fsm) (s : State) : (writeFsm f s).errCmd = s.errCmd := rfl
@[simp] theorem writeFsm_busy (f : Fsm) (s : State) : (writeFsm f s).busy = s.busy := rfl
@[simp] theorem writeFsm_cmd (f : Fsm) (s : State) : (writeFsm f s).cmd = s.cmd := rfl
@[simp] theorem writeFsm_din (f : Fsm) (s : State) : (writeFsm f s).din = s.din := rfl
@[simp] theorem writeFsm_wait (f : Fsm) (s : State) : (writeFsm f s).wait = s.wait := rfl
@[simp] theorem writeFsm_lat (f : Fsm) (s : State) : (writeFsm f s).lat = s.lat := rfl
@[simp] theorem writeFsm_host (f : Fsm) (s : State) : (writeFsm f s).host = s.host := rfl

@[simp] theorem writeDir_sReg (d : Dir) (s : State) : (writeDir d s).sReg = s.sReg := rfl
@[simp] theorem writeDir_wReg (d : Dir) (s : State) : (writeDir d s).wReg = s.wReg := rfl
@[simp] theorem writeDir_key (d : Dir) (s : State) : (writeDir d s).key = s.key := rfl
@[simp] theorem writeDir_yReg (d : Dir) (s : State) : (writeDir d s).yReg = s.yReg := rfl
@[simp] theorem writeDir_lReg (d : Dir) (s : State) : (writeDir d s).lReg = s.lReg := rfl
@[simp] theorem writeDir_dlen (d : Dir) (s : State) : (writeDir d s).dlen = s.dlen := rfl
@[simp] theorem writeDir_mlen (d : Dir) (s : State) : (writeDir d s).mlen = s.mlen := rfl
@[simp] theorem writeDir_adRem (d : Dir) (s : State) : (writeDir d s).adRem = s.adRem := rfl
@[simp] theorem writeDir_msgRem (d : Dir) (s : State) : (writeDir d s).msgRem = s.msgRem := rfl
@[simp] theorem writeDir_dout (d : Dir) (s : State) : (writeDir d s).dout = s.dout := rfl
@[simp] theorem writeDir_fsm (d : Dir) (s : State) : (writeDir d s).fsm = s.fsm := rfl
@[simp] theorem writeDir_dir (d : Dir) (s : State) : (writeDir d s).dir = d := rfl
@[simp] theorem writeDir_authDone (d : Dir) (s : State) : (writeDir d s).authDone = s.authDone := rfl
@[simp] theorem writeDir_authOk (d : Dir) (s : State) : (writeDir d s).authOk = s.authOk := rfl
@[simp] theorem writeDir_err (d : Dir) (s : State) : (writeDir d s).err = s.err := rfl
@[simp] theorem writeDir_errCode (d : Dir) (s : State) : (writeDir d s).errCode = s.errCode := rfl
@[simp] theorem writeDir_errCmd (d : Dir) (s : State) : (writeDir d s).errCmd = s.errCmd := rfl
@[simp] theorem writeDir_busy (d : Dir) (s : State) : (writeDir d s).busy = s.busy := rfl
@[simp] theorem writeDir_cmd (d : Dir) (s : State) : (writeDir d s).cmd = s.cmd := rfl
@[simp] theorem writeDir_din (d : Dir) (s : State) : (writeDir d s).din = s.din := rfl
@[simp] theorem writeDir_wait (d : Dir) (s : State) : (writeDir d s).wait = s.wait := rfl
@[simp] theorem writeDir_lat (d : Dir) (s : State) : (writeDir d s).lat = s.lat := rfl
@[simp] theorem writeDir_host (d : Dir) (s : State) : (writeDir d s).host = s.host := rfl

@[simp] theorem writeAuth_sReg (done ok : Bool) (s : State) : (writeAuth done ok s).sReg = s.sReg := rfl
@[simp] theorem writeAuth_wReg (done ok : Bool) (s : State) : (writeAuth done ok s).wReg = s.wReg := rfl
@[simp] theorem writeAuth_key (done ok : Bool) (s : State) : (writeAuth done ok s).key = s.key := rfl
@[simp] theorem writeAuth_yReg (done ok : Bool) (s : State) : (writeAuth done ok s).yReg = s.yReg := rfl
@[simp] theorem writeAuth_lReg (done ok : Bool) (s : State) : (writeAuth done ok s).lReg = s.lReg := rfl
@[simp] theorem writeAuth_dlen (done ok : Bool) (s : State) : (writeAuth done ok s).dlen = s.dlen := rfl
@[simp] theorem writeAuth_mlen (done ok : Bool) (s : State) : (writeAuth done ok s).mlen = s.mlen := rfl
@[simp] theorem writeAuth_adRem (done ok : Bool) (s : State) : (writeAuth done ok s).adRem = s.adRem := rfl
@[simp] theorem writeAuth_msgRem (done ok : Bool) (s : State) : (writeAuth done ok s).msgRem = s.msgRem := rfl
@[simp] theorem writeAuth_dout (done ok : Bool) (s : State) : (writeAuth done ok s).dout = s.dout := rfl
@[simp] theorem writeAuth_fsm (done ok : Bool) (s : State) : (writeAuth done ok s).fsm = s.fsm := rfl
@[simp] theorem writeAuth_dir (done ok : Bool) (s : State) : (writeAuth done ok s).dir = s.dir := rfl
@[simp] theorem writeAuth_authDone (done ok : Bool) (s : State) : (writeAuth done ok s).authDone = done := rfl
@[simp] theorem writeAuth_authOk (done ok : Bool) (s : State) : (writeAuth done ok s).authOk = ok := rfl
@[simp] theorem writeAuth_err (done ok : Bool) (s : State) : (writeAuth done ok s).err = s.err := rfl
@[simp] theorem writeAuth_errCode (done ok : Bool) (s : State) : (writeAuth done ok s).errCode = s.errCode := rfl
@[simp] theorem writeAuth_errCmd (done ok : Bool) (s : State) : (writeAuth done ok s).errCmd = s.errCmd := rfl
@[simp] theorem writeAuth_busy (done ok : Bool) (s : State) : (writeAuth done ok s).busy = s.busy := rfl
@[simp] theorem writeAuth_cmd (done ok : Bool) (s : State) : (writeAuth done ok s).cmd = s.cmd := rfl
@[simp] theorem writeAuth_din (done ok : Bool) (s : State) : (writeAuth done ok s).din = s.din := rfl
@[simp] theorem writeAuth_wait (done ok : Bool) (s : State) : (writeAuth done ok s).wait = s.wait := rfl
@[simp] theorem writeAuth_lat (done ok : Bool) (s : State) : (writeAuth done ok s).lat = s.lat := rfl
@[simp] theorem writeAuth_host (done ok : Bool) (s : State) : (writeAuth done ok s).host = s.host := rfl

@[simp] theorem writeError_sReg (e : Bool) (c : ErrCode) (w : Word32) (s : State) : (writeError e c w s).sReg = s.sReg := rfl
@[simp] theorem writeError_wReg (e : Bool) (c : ErrCode) (w : Word32) (s : State) : (writeError e c w s).wReg = s.wReg := rfl
@[simp] theorem writeError_key (e : Bool) (c : ErrCode) (w : Word32) (s : State) : (writeError e c w s).key = s.key := rfl
@[simp] theorem writeError_yReg (e : Bool) (c : ErrCode) (w : Word32) (s : State) : (writeError e c w s).yReg = s.yReg := rfl
@[simp] theorem writeError_lReg (e : Bool) (c : ErrCode) (w : Word32) (s : State) : (writeError e c w s).lReg = s.lReg := rfl
@[simp] theorem writeError_dlen (e : Bool) (c : ErrCode) (w : Word32) (s : State) : (writeError e c w s).dlen = s.dlen := rfl
@[simp] theorem writeError_mlen (e : Bool) (c : ErrCode) (w : Word32) (s : State) : (writeError e c w s).mlen = s.mlen := rfl
@[simp] theorem writeError_adRem (e : Bool) (c : ErrCode) (w : Word32) (s : State) : (writeError e c w s).adRem = s.adRem := rfl
@[simp] theorem writeError_msgRem (e : Bool) (c : ErrCode) (w : Word32) (s : State) : (writeError e c w s).msgRem = s.msgRem := rfl
@[simp] theorem writeError_dout (e : Bool) (c : ErrCode) (w : Word32) (s : State) : (writeError e c w s).dout = s.dout := rfl
@[simp] theorem writeError_fsm (e : Bool) (c : ErrCode) (w : Word32) (s : State) : (writeError e c w s).fsm = s.fsm := rfl
@[simp] theorem writeError_dir (e : Bool) (c : ErrCode) (w : Word32) (s : State) : (writeError e c w s).dir = s.dir := rfl
@[simp] theorem writeError_authDone (e : Bool) (c : ErrCode) (w : Word32) (s : State) : (writeError e c w s).authDone = s.authDone := rfl
@[simp] theorem writeError_authOk (e : Bool) (c : ErrCode) (w : Word32) (s : State) : (writeError e c w s).authOk = s.authOk := rfl
@[simp] theorem writeError_err (e : Bool) (c : ErrCode) (w : Word32) (s : State) : (writeError e c w s).err = e := rfl
@[simp] theorem writeError_errCode (e : Bool) (c : ErrCode) (w : Word32) (s : State) : (writeError e c w s).errCode = c := rfl
@[simp] theorem writeError_errCmd (e : Bool) (c : ErrCode) (w : Word32) (s : State) : (writeError e c w s).errCmd = w := rfl
@[simp] theorem writeError_busy (e : Bool) (c : ErrCode) (w : Word32) (s : State) : (writeError e c w s).busy = s.busy := rfl
@[simp] theorem writeError_cmd (e : Bool) (c : ErrCode) (w : Word32) (s : State) : (writeError e c w s).cmd = s.cmd := rfl
@[simp] theorem writeError_din (e : Bool) (c : ErrCode) (w : Word32) (s : State) : (writeError e c w s).din = s.din := rfl
@[simp] theorem writeError_wait (e : Bool) (c : ErrCode) (w : Word32) (s : State) : (writeError e c w s).wait = s.wait := rfl
@[simp] theorem writeError_lat (e : Bool) (c : ErrCode) (w : Word32) (s : State) : (writeError e c w s).lat = s.lat := rfl
@[simp] theorem writeError_host (e : Bool) (c : ErrCode) (w : Word32) (s : State) : (writeError e c w s).host = s.host := rfl

@[simp] theorem absorb_sReg (x : Block) (s : State) : (absorb x s).sReg = (encipher s.key x).s := rfl
@[simp] theorem absorb_wReg (x : Block) (s : State) : (absorb x s).wReg = (encipher s.key x).w := rfl
@[simp] theorem absorb_key (x : Block) (s : State) : (absorb x s).key = s.key := rfl
@[simp] theorem absorb_yReg (x : Block) (s : State) : (absorb x s).yReg = (encipher s.key x).s := rfl
@[simp] theorem absorb_lReg (x : Block) (s : State) : (absorb x s).lReg = s.lReg := rfl
@[simp] theorem absorb_dlen (x : Block) (s : State) : (absorb x s).dlen = s.dlen := rfl
@[simp] theorem absorb_mlen (x : Block) (s : State) : (absorb x s).mlen = s.mlen := rfl
@[simp] theorem absorb_adRem (x : Block) (s : State) : (absorb x s).adRem = s.adRem := rfl
@[simp] theorem absorb_msgRem (x : Block) (s : State) : (absorb x s).msgRem = s.msgRem := rfl
@[simp] theorem absorb_dout (x : Block) (s : State) : (absorb x s).dout = s.dout := rfl
@[simp] theorem absorb_fsm (x : Block) (s : State) : (absorb x s).fsm = s.fsm := rfl
@[simp] theorem absorb_dir (x : Block) (s : State) : (absorb x s).dir = s.dir := rfl
@[simp] theorem absorb_authDone (x : Block) (s : State) : (absorb x s).authDone = s.authDone := rfl
@[simp] theorem absorb_authOk (x : Block) (s : State) : (absorb x s).authOk = s.authOk := rfl
@[simp] theorem absorb_err (x : Block) (s : State) : (absorb x s).err = s.err := rfl
@[simp] theorem absorb_errCode (x : Block) (s : State) : (absorb x s).errCode = s.errCode := rfl
@[simp] theorem absorb_errCmd (x : Block) (s : State) : (absorb x s).errCmd = s.errCmd := rfl
@[simp] theorem absorb_busy (x : Block) (s : State) : (absorb x s).busy = s.busy := rfl
@[simp] theorem absorb_cmd (x : Block) (s : State) : (absorb x s).cmd = s.cmd := rfl
@[simp] theorem absorb_din (x : Block) (s : State) : (absorb x s).din = s.din := rfl
@[simp] theorem absorb_wait (x : Block) (s : State) : (absorb x s).wait = s.wait := rfl
@[simp] theorem absorb_lat (x : Block) (s : State) : (absorb x s).lat = s.lat := rfl
@[simp] theorem absorb_host (x : Block) (s : State) : (absorb x s).host = s.host := rfl

@[simp] theorem absorbMasked_sReg (b : Block) (v : Word64) (s : State) : (absorbMasked b v s).sReg = (encipher s.key (maskedBlock b (yValue s) v)).s := rfl
@[simp] theorem absorbMasked_wReg (b : Block) (v : Word64) (s : State) : (absorbMasked b v s).wReg = (encipher s.key (maskedBlock b (yValue s) v)).w := rfl
@[simp] theorem absorbMasked_key (b : Block) (v : Word64) (s : State) : (absorbMasked b v s).key = s.key := rfl
@[simp] theorem absorbMasked_yReg (b : Block) (v : Word64) (s : State) : (absorbMasked b v s).yReg = (encipher s.key (maskedBlock b (yValue s) v)).s := rfl
@[simp] theorem absorbMasked_lReg (b : Block) (v : Word64) (s : State) : (absorbMasked b v s).lReg = maskWords v := rfl
@[simp] theorem absorbMasked_dlen (b : Block) (v : Word64) (s : State) : (absorbMasked b v s).dlen = s.dlen := rfl
@[simp] theorem absorbMasked_mlen (b : Block) (v : Word64) (s : State) : (absorbMasked b v s).mlen = s.mlen := rfl
@[simp] theorem absorbMasked_adRem (b : Block) (v : Word64) (s : State) : (absorbMasked b v s).adRem = s.adRem := rfl
@[simp] theorem absorbMasked_msgRem (b : Block) (v : Word64) (s : State) : (absorbMasked b v s).msgRem = s.msgRem := rfl
@[simp] theorem absorbMasked_dout (b : Block) (v : Word64) (s : State) : (absorbMasked b v s).dout = s.dout := rfl
@[simp] theorem absorbMasked_fsm (b : Block) (v : Word64) (s : State) : (absorbMasked b v s).fsm = s.fsm := rfl
@[simp] theorem absorbMasked_dir (b : Block) (v : Word64) (s : State) : (absorbMasked b v s).dir = s.dir := rfl
@[simp] theorem absorbMasked_authDone (b : Block) (v : Word64) (s : State) : (absorbMasked b v s).authDone = s.authDone := rfl
@[simp] theorem absorbMasked_authOk (b : Block) (v : Word64) (s : State) : (absorbMasked b v s).authOk = s.authOk := rfl
@[simp] theorem absorbMasked_err (b : Block) (v : Word64) (s : State) : (absorbMasked b v s).err = s.err := rfl
@[simp] theorem absorbMasked_errCode (b : Block) (v : Word64) (s : State) : (absorbMasked b v s).errCode = s.errCode := rfl
@[simp] theorem absorbMasked_errCmd (b : Block) (v : Word64) (s : State) : (absorbMasked b v s).errCmd = s.errCmd := rfl
@[simp] theorem absorbMasked_busy (b : Block) (v : Word64) (s : State) : (absorbMasked b v s).busy = s.busy := rfl
@[simp] theorem absorbMasked_cmd (b : Block) (v : Word64) (s : State) : (absorbMasked b v s).cmd = s.cmd := rfl
@[simp] theorem absorbMasked_din (b : Block) (v : Word64) (s : State) : (absorbMasked b v s).din = s.din := rfl
@[simp] theorem absorbMasked_wait (b : Block) (v : Word64) (s : State) : (absorbMasked b v s).wait = s.wait := rfl
@[simp] theorem absorbMasked_lat (b : Block) (v : Word64) (s : State) : (absorbMasked b v s).lat = s.lat := rfl
@[simp] theorem absorbMasked_host (b : Block) (v : Word64) (s : State) : (absorbMasked b v s).host = s.host := rfl

@[simp] theorem scrub_sReg (s : State) : (scrub s).sReg = Words4.zero := rfl
@[simp] theorem scrub_wReg (s : State) : (scrub s).wReg = KeyWords.zero := rfl
@[simp] theorem scrub_key (s : State) : (scrub s).key = s.key := rfl
@[simp] theorem scrub_yReg (s : State) : (scrub s).yReg = Words4.zero := rfl
@[simp] theorem scrub_lReg (s : State) : (scrub s).lReg = maskWords 0#64 := rfl
@[simp] theorem scrub_dlen (s : State) : (scrub s).dlen = s.dlen := rfl
@[simp] theorem scrub_mlen (s : State) : (scrub s).mlen = s.mlen := rfl
@[simp] theorem scrub_adRem (s : State) : (scrub s).adRem = 0#64 := rfl
@[simp] theorem scrub_msgRem (s : State) : (scrub s).msgRem = 0#64 := rfl
@[simp] theorem scrub_dout (s : State) : (scrub s).dout = s.dout := rfl
@[simp] theorem scrub_fsm (s : State) : (scrub s).fsm = s.fsm := rfl
@[simp] theorem scrub_dir (s : State) : (scrub s).dir = s.dir := rfl
@[simp] theorem scrub_authDone (s : State) : (scrub s).authDone = s.authDone := rfl
@[simp] theorem scrub_authOk (s : State) : (scrub s).authOk = s.authOk := rfl
@[simp] theorem scrub_err (s : State) : (scrub s).err = s.err := rfl
@[simp] theorem scrub_errCode (s : State) : (scrub s).errCode = s.errCode := rfl
@[simp] theorem scrub_errCmd (s : State) : (scrub s).errCmd = s.errCmd := rfl
@[simp] theorem scrub_busy (s : State) : (scrub s).busy = s.busy := rfl
@[simp] theorem scrub_cmd (s : State) : (scrub s).cmd = s.cmd := rfl
@[simp] theorem scrub_din (s : State) : (scrub s).din = s.din := rfl
@[simp] theorem scrub_wait (s : State) : (scrub s).wait = s.wait := rfl
@[simp] theorem scrub_lat (s : State) : (scrub s).lat = s.lat := rfl
@[simp] theorem scrub_host (s : State) : (scrub s).host = s.host := rfl

@[simp] theorem sample_sReg (c : Word32) (d : Block) (s : State) : (sample c d s).sReg = s.sReg := rfl
@[simp] theorem sample_wReg (c : Word32) (d : Block) (s : State) : (sample c d s).wReg = s.wReg := rfl
@[simp] theorem sample_key (c : Word32) (d : Block) (s : State) : (sample c d s).key = s.key := rfl
@[simp] theorem sample_yReg (c : Word32) (d : Block) (s : State) : (sample c d s).yReg = s.yReg := rfl
@[simp] theorem sample_lReg (c : Word32) (d : Block) (s : State) : (sample c d s).lReg = s.lReg := rfl
@[simp] theorem sample_dlen (c : Word32) (d : Block) (s : State) : (sample c d s).dlen = s.dlen := rfl
@[simp] theorem sample_mlen (c : Word32) (d : Block) (s : State) : (sample c d s).mlen = s.mlen := rfl
@[simp] theorem sample_adRem (c : Word32) (d : Block) (s : State) : (sample c d s).adRem = s.adRem := rfl
@[simp] theorem sample_msgRem (c : Word32) (d : Block) (s : State) : (sample c d s).msgRem = s.msgRem := rfl
@[simp] theorem sample_dout (c : Word32) (d : Block) (s : State) : (sample c d s).dout = s.dout := rfl
@[simp] theorem sample_fsm (c : Word32) (d : Block) (s : State) : (sample c d s).fsm = s.fsm := rfl
@[simp] theorem sample_dir (c : Word32) (d : Block) (s : State) : (sample c d s).dir = s.dir := rfl
@[simp] theorem sample_authDone (c : Word32) (d : Block) (s : State) : (sample c d s).authDone = s.authDone := rfl
@[simp] theorem sample_authOk (c : Word32) (d : Block) (s : State) : (sample c d s).authOk = s.authOk := rfl
@[simp] theorem sample_err (c : Word32) (d : Block) (s : State) : (sample c d s).err = s.err := rfl
@[simp] theorem sample_errCode (c : Word32) (d : Block) (s : State) : (sample c d s).errCode = s.errCode := rfl
@[simp] theorem sample_errCmd (c : Word32) (d : Block) (s : State) : (sample c d s).errCmd = s.errCmd := rfl
@[simp] theorem sample_busy (c : Word32) (d : Block) (s : State) : (sample c d s).busy = s.busy := rfl
@[simp] theorem sample_cmd (c : Word32) (d : Block) (s : State) : (sample c d s).cmd = c := rfl
@[simp] theorem sample_din (c : Word32) (d : Block) (s : State) : (sample c d s).din = d := rfl
@[simp] theorem sample_wait (c : Word32) (d : Block) (s : State) : (sample c d s).wait = s.wait := rfl
@[simp] theorem sample_lat (c : Word32) (d : Block) (s : State) : (sample c d s).lat = s.lat := rfl
@[simp] theorem sample_host (c : Word32) (d : Block) (s : State) : (sample c d s).host = s.host := rfl

@[simp] theorem retire_sReg (s : State) : (retire s).sReg = s.sReg := rfl
@[simp] theorem retire_wReg (s : State) : (retire s).wReg = s.wReg := rfl
@[simp] theorem retire_key (s : State) : (retire s).key = s.key := rfl
@[simp] theorem retire_yReg (s : State) : (retire s).yReg = s.yReg := rfl
@[simp] theorem retire_lReg (s : State) : (retire s).lReg = s.lReg := rfl
@[simp] theorem retire_dlen (s : State) : (retire s).dlen = s.dlen := rfl
@[simp] theorem retire_mlen (s : State) : (retire s).mlen = s.mlen := rfl
@[simp] theorem retire_adRem (s : State) : (retire s).adRem = s.adRem := rfl
@[simp] theorem retire_msgRem (s : State) : (retire s).msgRem = s.msgRem := rfl
@[simp] theorem retire_dout (s : State) : (retire s).dout = s.dout := rfl
@[simp] theorem retire_fsm (s : State) : (retire s).fsm = s.fsm := rfl
@[simp] theorem retire_dir (s : State) : (retire s).dir = s.dir := rfl
@[simp] theorem retire_authDone (s : State) : (retire s).authDone = s.authDone := rfl
@[simp] theorem retire_authOk (s : State) : (retire s).authOk = s.authOk := rfl
@[simp] theorem retire_err (s : State) : (retire s).err = s.err := rfl
@[simp] theorem retire_errCode (s : State) : (retire s).errCode = s.errCode := rfl
@[simp] theorem retire_errCmd (s : State) : (retire s).errCmd = s.errCmd := rfl
@[simp] theorem retire_busy (s : State) : (retire s).busy = false := rfl
@[simp] theorem retire_cmd (s : State) : (retire s).cmd = 0#32 := rfl
@[simp] theorem retire_din (s : State) : (retire s).din = 0#128 := rfl
@[simp] theorem retire_wait (s : State) : (retire s).wait = 0 := rfl
@[simp] theorem retire_lat (s : State) : (retire s).lat = s.lat := rfl
@[simp] theorem retire_host (s : State) : (retire s).host = s.host := rfl

end Sys2Proof.Machine
end

