-- ==== Sys2Proof/Laws/Ops.lean ====
section
/-! SUPPORT. What the shared operations can do, said once: the checks, a rejection, and a command as checks then effect. -/

namespace Sys2Proof.Laws

open Sys2Proof.Machine

/-- The effect of a command that passes its checks: each meaning without its checks. -/
def effect : Instr → State → Result
  | .nop, s => .next s
  | .clrerr, s => .next (writeError false .noError 0#32 s)
  | .abort, s => .next (writeFsm .init (writeDout 0#128 (scrub s)))
  | .rderr, s => .next (writeDout (s.errCmd.setWidth 128) s)
  | .ldkey, s => .next (writeKey (keyOperand s) s)
  | .ldlen, s => .next (writeLengths (dlenOperand s) (mlenOperand s) s)
  | .rdlen, s => .next (writeDout (s.adRem ++ s.msgRem) s)
  | .bcinit, s => .next (writeCipher (initCipher (blockOperand s) s.key) s)
  | .bcperm rcnt, s => .next (writeCipher (permute rcnt.toNat ⟨s.sReg, s.wReg⟩) s)
  | .rds, s => .next (writeDout (join32 s.sReg) s)
  | .rdw, s => .next (writeDout (join16 s.wReg) s)
  | .ldl, s => .next (writeMask (maskOperand s) s)
  | .rdl, s => .next (writeDout (inHighHalf (lValue s)) s)
  | .mul2, s => .next (writeMask (mulAlpha (lValue s)) s)
  | .mul3, s => .next (writeMask (mulAlphaPlus1 (lValue s)) s)
  | .fbg, s => .next (writeDout (feedback (blockOperand s)) s)
  | .start dir, s => .next (startSession dir s)
  | .ad, s => if s.fsm = .adIntermediate then runAd s else runFinalAd s
  | .msg, s => if s.fsm = .msgIntermediate then runMsg s else runFinalMsg s
  | .tag, s => .next (writeFsm .init (scrub (writeDout (yValue s) s)))
  | .verify, s =>
    .next (writeFsm .init (scrub (writeDout 0#128 (writeAuth true (ctEqual (tagOperand s) (yValue s)) s))))

/-- Every command is its checks, then its effect (60_exceptions.md R210). -/
theorem exec_eq_checked (i : Instr) (s : State) : exec i s = checked i s (effect i s) := by
  cases i <;> rfl

/-- The checks pass exactly when the operand limit, the legality table and the direction check do. -/
theorem failedCheck_eq_none_iff (i : Instr) (s : State) :
    failedCheck i s = none ↔ i.wellFormed = true ∧ legalIn i s.fsm = true ∧ dirAgrees i s.dir = true := by
  unfold failedCheck
  cases i.wellFormed <;> cases legalIn i s.fsm <;> cases dirAgrees i s.dir <;> simp

/-- Which check a rejected command failed. -/
theorem failedCheck_eq_some_iff (i : Instr) (s : State) (c : ErrCode) :
    failedCheck i s = some c ↔
      (i.wellFormed = false ∧ c = .badField)
      ∨ (i.wellFormed = true ∧ legalIn i s.fsm = false ∧ c = .badState)
      ∨ (i.wellFormed = true ∧ legalIn i s.fsm = true ∧ dirAgrees i s.dir = false ∧ c = .wrongDir) := by
  unfold failedCheck
  cases i.wellFormed <;> cases legalIn i s.fsm <;> cases dirAgrees i s.dir <;> simp [eq_comm]

/-- The checks read only FSM and DIR. -/
theorem failedCheck_congr (i : Instr) {s t : State} (hf : s.fsm = t.fsm) (hd : s.dir = t.dir) : failedCheck i s = failedCheck i t := by
  unfold failedCheck; rw [hf, hd]

theorem checked_of_admitted {i : Instr} {s : State} (h : failedCheck i s = none) (e : Result) : checked i s e = e := by
  simp [checked, h]

theorem checked_of_rejected {i : Instr} {s : State} {c : ErrCode} (h : failedCheck i s = some c) (e : Result) :
    checked i s e = .next (reject c s) := by
  simp [checked, h]

theorem exec_of_admitted {i : Instr} {s : State} (h : failedCheck i s = none) : exec i s = effect i s := by
  rw [exec_eq_checked, checked_of_admitted h]

theorem exec_of_rejected {i : Instr} {s : State} {c : ErrCode} (h : failedCheck i s = some c) :
    exec i s = .next (reject c s) := by
  rw [exec_eq_checked, checked_of_rejected h]

/-- What a command that answers a next state did: it was rejected, or it ran its effect. -/
theorem exec_next_cases {i : Instr} {s t : State} (h : exec i s = .next t) :
    (∃ c, failedCheck i s = some c ∧ t = reject c s) ∨ (failedCheck i s = none ∧ effect i s = .next t) := by
  cases ha : failedCheck i s with
  | none => exact .inr ⟨rfl, exec_of_admitted ha ▸ h⟩
  | some c =>
    rw [exec_of_rejected ha] at h
    exact .inl ⟨c, rfl, (Host.Outcome.next.inj h).symm⟩

/-- A rejection is the record of R213. -/
theorem reject_eq_recorded (c : ErrCode) (s : State) : reject c s = Safety.recorded c s := rfl

/-- A rejection while an error is recorded changes nothing. -/
theorem reject_of_err {s : State} (h : s.err = true) (c : ErrCode) : reject c s = s := by simp [reject, h]

/-- A rejection while no error is recorded writes the record. -/
theorem reject_of_no_err {s : State} (h : s.err = false) (c : ErrCode) : reject c s = writeError true c s.cmd s := by
  simp [reject, h]

/-- A rejection changes the error record and nothing else: it is s with some record. -/
theorem reject_eq_writeError (c : ErrCode) (s : State) :
    reject c s = writeError true (if s.err then s.errCode else c) (if s.err then s.errCmd else s.cmd) s := by
  cases h : s.err
  · simp [reject_of_no_err h]
  · rw [reject_of_err h]
    cases s
    simp_all [writeError]

/-- A sampled word passes its checks when it decodes and its command passes the checks of the state. -/
theorem checkCommand_eq_ok_iff (s : State) (i : Instr) :
    checkCommand s = .ok i ↔ decode s.cmd = .ok i ∧ failedCheck i s = none := by
  unfold checkCommand
  cases decode s.cmd with
  | error c => simp
  | ok j => cases h : failedCheck j s <;> aesop

/-- A sampled word fails its checks when it does not decode or its command fails a check of the state. -/
theorem checkCommand_eq_error_iff (s : State) (c : ErrCode) :
    checkCommand s = .error c ↔ decode s.cmd = .error c ∨ ∃ i, decode s.cmd = .ok i ∧ failedCheck i s = some c := by
  unfold checkCommand
  cases decode s.cmd with
  | error c => simp
  | ok j => cases h : failedCheck j s <;> aesop

/-- A word that passes its checks runs its command's effect. -/
theorem perform_of_checked {s : State} {i : Instr} (h : checkCommand s = .ok i) : perform s = effect i s := by
  rw [checkCommand_eq_ok_iff] at h
  unfold perform
  rw [h.1]
  exact exec_of_admitted h.2

/-- A word that fails a check is rejected with its code. -/
theorem perform_of_failed {s : State} {c : ErrCode} (h : checkCommand s = .error c) : perform s = .next (reject c s) := by
  rw [checkCommand_eq_error_iff] at h
  unfold perform
  rcases h with h | ⟨i, hd, hc⟩
  · rw [h]
  · rw [hd]
    exact exec_of_rejected hc

/-- What AD's effect answers (43_cofb_fsm.md R159, R161). -/
theorem effect_ad_cases {s t : State} (h : effect .ad s = .next t) :
    (s.fsm = .adIntermediate ∧ 16#64 ≤ s.adRem ∧ t = absorbAd s)
    ∨ (s.fsm ≠ .adIntermediate ∧ s.adRem ≤ 16#64 ∧ t = absorbFinalAd s.adRem.toNat s) := by
  simp only [effect, runAd, runFinalAd] at h
  split at h <;> split at h <;> simp_all

/-- What MSG's effect answers (R162, R163). -/
theorem effect_msg_cases {s t : State} (h : effect .msg s = .next t) :
    (s.fsm = .msgIntermediate ∧ 16#64 ≤ s.msgRem ∧ t = absorbMsg s)
    ∨ (s.fsm ≠ .msgIntermediate ∧ s.msgRem ≤ 16#64 ∧ t = absorbFinalMsg s.msgRem.toNat s) := by
  simp only [effect, runMsg, runFinalMsg] at h
  split at h <;> split at h <;> simp_all

/-- Retiring a command in the state it leaves. -/
@[simp] theorem retired_next (s : State) : retired (.next s) = .next (retire s) := rfl

/-- mapNext on a next state. -/
@[simp] theorem mapNext_next (f : State → State) (s : State) : Safety.mapNext f (.next s) = .next (f s) := rfl

/-- Retiring is mapping retire over the answer. -/
theorem retired_eq_mapNext (r : Result) : retired r = Safety.mapNext retire r := by cases r <;> rfl

end Sys2Proof.Laws
end

