-- ==== Sys2Proof/Laws/Clock.lean ====
section
/-! SUPPORT. What an edge can do, said once: the handshake fields do not matter to a command; waiting, completing, accepting. -/

namespace Sys2Proof.Laws

open Sys2Proof.Machine

/-- The same engine with other handshake fields: BUSY, the edges left and the host's coming moves. -/
def withHandshake (b : Bool) (w : Nat) (h : List HostMove) (s : State) : State := { s with busy := b, wait := w, host := h }

/-- No command reads or writes the handshake fields. -/
theorem exec_withHandshake (b : Bool) (w : Nat) (h : List HostMove) (i : Instr) (s : State) :
    exec i (withHandshake b w h s) = Safety.mapNext (withHandshake b w h) (exec i s) := by
  cases ha : failedCheck i s with
  | some c =>
    rw [exec_of_rejected ha, exec_of_rejected (i := i) (s := withHandshake b w h s) (c := c) (by rw [← ha]; rfl)]
    simp only [mapNext_next]
    unfold reject withHandshake
    cases h : s.err <;> simp [h, writeError]
  | none =>
    rw [exec_of_admitted ha, exec_of_admitted (i := i) (s := withHandshake b w h s) (by rw [← ha]; rfl)]
    cases i
    case ad =>
      have e : (withHandshake b w h s).fsm = s.fsm := rfl
      have e2 : (withHandshake b w h s).adRem = s.adRem := rfl
      by_cases hf : s.fsm = .adIntermediate <;>
        simp only [effect, runAd, runFinalAd, e, e2, hf, if_true, if_false] <;> split <;> rfl
    case msg =>
      have e : (withHandshake b w h s).fsm = s.fsm := rfl
      have e2 : (withHandshake b w h s).msgRem = s.msgRem := rfl
      by_cases hf : s.fsm = .msgIntermediate <;>
        simp only [effect, runMsg, runFinalMsg, e, e2, hf, if_true, if_false] <;> split <;> rfl
    all_goals rfl

/-- A command word does not read or write the handshake fields either, rejected or not. -/
theorem perform_withHandshake (b : Bool) (w : Nat) (h : List HostMove) (s : State) :
    perform (withHandshake b w h s) = Safety.mapNext (withHandshake b w h) (perform s) := by
  unfold perform
  have e : (withHandshake b w h s).cmd = s.cmd := rfl
  rw [e]
  cases decode s.cmd with
  | error c =>
    simp only [mapNext_next]
    unfold reject withHandshake
    cases h : s.err <;> simp [h, writeError]
  | ok i => exact exec_withHandshake b w h i s

/-- What a completing edge leaves depends on the handshake fields only in the host's coming moves. -/
theorem complete_withHandshake (b : Bool) (w : Nat) (h : List HostMove) (s : State) :
    complete (withHandshake b w h s) = Safety.mapNext (fun t => { t with host := h }) (complete s) := by
  unfold complete
  rw [perform_withHandshake, retired_eq_mapNext, retired_eq_mapNext]
  cases perform s <;> rfl

/-- The latency does not depend on the handshake fields. -/
theorem latency_withHandshake (b : Bool) (w : Nat) (h : List HostMove) (s : State) :
    latency (withHandshake b w h s) = latency s := rfl

/-- A latency is at least one edge (70_reset_and_hazards.md R238). -/
theorem one_le_latency (s : State) : 1 ≤ latency s := Nat.le_max_left _ _

/-- While BUSY = 1 and neither an idle nor a reset edge is due, an edge only lets the running command proceed. -/
theorem step_of_busy {s : State} (hb : s.busy = true) (hr : ∀ later, s.host ≠ .reset :: later)
    (hi : ∀ later, s.host ≠ .idle :: later) : step s = proceed s := by
  unfold step clockEdge
  rcases hh : s.host with _ | ⟨m, later⟩
  · rfl
  · cases m
    · simp [hb]
    · exact absurd hh (hi _)
    · exact absurd hh (hr _)

/-- The last edge of a running command completes it. -/
theorem proceed_last {s : State} (hb : s.busy = true) (hw : s.wait ≤ 1) : proceed s = complete s := by
  simp [proceed, hb, hw]

/-- An earlier edge of a running command counts one down. -/
theorem proceed_waits {s : State} (hb : s.busy = true) (hw : 1 < s.wait) :
    proceed s = .next { s with wait := s.wait - 1 } := by
  simp [proceed, hb, Nat.not_le.mpr hw]

/-- With no running command an edge without acceptance changes nothing. -/
theorem proceed_ready {s : State} (hb : s.busy = false) : proceed s = .next s := by simp [proceed, hb]

/-- A presented command is accepted when the engine is not busy. -/
theorem step_of_accept {s : State} {c : Word32} {d : Block} {later : List HostMove} (hb : s.busy = false)
    (hh : s.host = .command c d :: later) : step s = accept c d { s with host := later } := by
  simp [step, clockEdge, hh, hb]

/-- A reset edge. -/
theorem step_of_reset {s : State} {later : List HostMove} (hh : s.host = .reset :: later) :
    step s = .next (resetEngine later s) := by
  simp [step, clockEdge, hh]

/-- What a completing edge leaves: the command performed, then retired. -/
theorem complete_next {s t : State} (h : complete s = .next t) : ∃ u, perform s = .next u ∧ t = retire u := by
  unfold complete at h
  cases hp : perform s with
  | next u => rw [hp] at h; exact ⟨u, rfl, (Host.Outcome.next.inj h).symm⟩
  | fault r => rw [hp] at h; cases h
  | refused r => rw [hp] at h; cases h

/-- A run of k + 1 edges whose first goes on. -/
theorem run_succ_of_next {M : Host.Core} {s t : M.State} (k : Nat) (h : M.step s = .next t) :
    M.run (k + 1) s = M.run k t := by
  simp [Host.Core.run, h]

/-- A run of one edge. -/
theorem run_one (M : Host.Core) (s : M.State) : M.run 1 s = M.step s := by
  simp only [Host.Core.run]
  cases M.step s <;> rfl

/-- A run of j + k edges is a run of k after a run of j. -/
theorem run_add_of_next {M : Host.Core} (j k : Nat) {s t : M.State} (h : M.run j s = .next t) :
    M.run (j + k) s = M.run k t := by
  induction j generalizing s with
  | zero => cases h; rw [Nat.zero_add]
  | succ j ih =>
    rw [Nat.succ_add]
    simp only [Host.Core.run] at h ⊢
    cases hs : M.step s with
    | next u => rw [hs] at h; exact ih h
    | fault r => rw [hs] at h; cases h
    | refused r => rw [hs] at h; cases h

end Sys2Proof.Laws
end

