-- ==== Sys2Proof/Laws/Decode.lean ====
section
/-! SUPPORT. What the decoder can answer, said once. -/

namespace Sys2Proof.Laws

/-- A word decodes when its OPC selects a command and its other fields are legal for that command. -/
theorem decode_eq_ok_iff (w : Word32) (i : Instr) :
    decode w = .ok i ↔
      lookupOpcode (opcField w) (rcntField w) (dirField w) = some i
      ∧ rsvField w = 0#17 ∧ rcntLegal i (rcntField w) = true ∧ dirLegal i (dirField w) = true := by
  unfold decode
  cases lookupOpcode (opcField w) (rcntField w) (dirField w) with
  | none => simp
  | some j =>
    dsimp only
    constructor
    · intro h
      split at h
      · cases h
        simp_all
      · cases h
    · rintro ⟨h, h1, h2, h3⟩
      cases h
      simp [h1, h2, h3]

/-- A word is an illegal opcode when its OPC selects no command (60_exceptions.md R210, check 1). -/
theorem decode_eq_illegal_iff (w : Word32) :
    decode w = .error .illegalOpcode ↔ lookupOpcode (opcField w) (rcntField w) (dirField w) = none := by
  unfold decode
  cases lookupOpcode (opcField w) (rcntField w) (dirField w) with
  | none => simp
  | some j =>
    dsimp only
    split <;> simp

/-- The decoder rejects with ILLEGAL_OPCODE or BAD_FIELD only. -/
theorem decode_error {w : Word32} {c : ErrCode} (h : decode w = .error c) : c = .illegalOpcode ∨ c = .badField := by
  unfold decode at h
  split at h
  · cases h; exact .inl rfl
  · split at h <;> cases h
    exact .inr rfl

end Sys2Proof.Laws
end

