-- ==== Sys2Proof/Laws/PerInstr.lean ====
section
/-! SUPPORT. One lemma per command about its word as syntax: every field of the word it assembles to (30_encoding.md R70 to R74,
R80), whatever the round count. -/

namespace Sys2Proof.Laws.WordFields

/-- The four fields of a command's word are its OPC value, its round count, its direction and zeros. -/
def Statement (i : Instr) : Prop :=
  opcField (encode i) = opcode i ∧ rcntField (encode i) = rcntOf i ∧ dirField (encode i) = dirOf i
    ∧ rsvField (encode i) = 0#17

theorem nop : Statement .nop := by unfold Statement; decide

theorem clrerr : Statement .clrerr := by unfold Statement; decide

theorem abort : Statement .abort := by unfold Statement; decide

theorem rderr : Statement .rderr := by unfold Statement; decide

theorem ldkey : Statement .ldkey := by unfold Statement; decide

theorem ldlen : Statement .ldlen := by unfold Statement; decide

theorem rdlen : Statement .rdlen := by unfold Statement; decide

theorem bcinit : Statement .bcinit := by unfold Statement; decide

theorem bcperm (rcnt : BitVec 6) : Statement (.bcperm rcnt) := by
  unfold Statement
  decide +kernel +revert

theorem rds : Statement .rds := by unfold Statement; decide

theorem rdw : Statement .rdw := by unfold Statement; decide

theorem ldl : Statement .ldl := by unfold Statement; decide

theorem rdl : Statement .rdl := by unfold Statement; decide

theorem mul2 : Statement .mul2 := by unfold Statement; decide

theorem mul3 : Statement .mul3 := by unfold Statement; decide

theorem fbg : Statement .fbg := by unfold Statement; decide

theorem start (dir : Dir) : Statement (.start dir) := by
  unfold Statement
  cases dir <;> decide

theorem ad : Statement .ad := by unfold Statement; decide

theorem msg : Statement .msg := by unfold Statement; decide

theorem tag : Statement .tag := by unfold Statement; decide

theorem verify : Statement .verify := by unfold Statement; decide

end Sys2Proof.Laws.WordFields
end

