-- ==== Sys2Proof/Laws/Views.lean ====
section
/-! SUPPORT. The laws of the byte and word views of a block (00_scope.md R7, R8): each view and its inverse. -/

namespace Sys2Proof.Laws

open Sys2Proof.Machine

/-- A field that lies in the low operand of a concatenation. -/
theorem extract_append_low {w v : Nat} (x : BitVec w) (y : BitVec v) (a n : Nat) (h : a + n ≤ v) :
    (x ++ y).extractLsb' a n = y.extractLsb' a n := by
  ext i hi
  simp [BitVec.getLsbD_append]; omega

/-- A field that lies in the high operand of a concatenation. -/
theorem extract_append_high {w v : Nat} (x : BitVec w) (y : BitVec v) (a n : Nat) (h : v ≤ a) :
    (x ++ y).extractLsb' a n = x.extractLsb' (a - v) n := by
  ext i hi
  have h1 : ¬ (a + i < v) := by omega
  simp [BitVec.getLsbD_append, h1]; congr 1; omega

/-- Two adjacent fields make the field that spans them. -/
theorem extract_adjacent {w : Nat} (x : BitVec w) (a m n : Nat) :
    x.extractLsb' (a + n) m ++ x.extractLsb' a n = x.extractLsb' a (m + n) := by
  apply BitVec.eq_of_getLsbD_eq
  intro i hi
  simp only [BitVec.getLsbD_append, BitVec.getLsbD_extractLsb']
  by_cases h : i < n
  · simp [h, hi]
  · have h2 : i - n < m := by omega
    have h3 : a + n + (i - n) = a + i := by omega
    simp [h, h2, h3, hi]

/-- byte(b0 ‖ ... ‖ b15, i) = b_i. -/
theorem byteOf_joinBytes (f : Nat → Byte) (i : Nat) (h : i < 16) : byteOf (joinBytes f) i = f i := by
  unfold byteOf joinBytes
  interval_cases i <;> (repeat rw [extract_append_high _ _ _ _ (by decide)]) <;>
    first
    | exact BitVec.extractLsb'_eq_self
    | (rw [extract_append_low _ _ _ _ (by decide)]; exact BitVec.extractLsb'_eq_self)

/-- Bit i of a block is a bit of one of its bytes. -/
theorem getLsbD_eq_byteOf (b : Block) (i : Nat) (h : i < 128) :
    b.getLsbD i = (byteOf b (15 - i / 8)).getLsbD (i % 8) := by
  have h1 : i % 8 < 8 := Nat.mod_lt _ (by decide)
  have h2 : 120 - 8 * (15 - i / 8) + i % 8 = i := by omega
  simp [byteOf, h1, h2]

/-- Blocks with the same bytes are equal. -/
theorem eq_of_byteOf_eq {a b : Block} (h : ∀ i, i < 16 → byteOf a i = byteOf b i) : a = b := by
  apply BitVec.eq_of_getLsbD_eq
  intro i hi
  rw [getLsbD_eq_byteOf a i hi, getLsbD_eq_byteOf b i hi, h _ (by omega)]

/-- A block is the concatenation of its bytes. -/
theorem joinBytes_byteOf (b : Block) : joinBytes (byteOf b) = b :=
  eq_of_byteOf_eq fun i hi => byteOf_joinBytes _ i hi

/-- Only the bytes 0..15 matter to joinBytes. -/
theorem joinBytes_congr {f g : Nat → Byte} (h : ∀ i, i < 16 → f i = g i) : joinBytes f = joinBytes g :=
  eq_of_byteOf_eq fun i hi => by rw [byteOf_joinBytes _ i hi, byteOf_joinBytes _ i hi, h i hi]

/-- Bytes of an XOR. -/
theorem byteOf_xor (a b : Block) (i : Nat) : byteOf (a ^^^ b) i = byteOf a i ^^^ byteOf b i := by
  simp only [byteOf]
  ext j hj
  simp

/-- join32 undoes split32. -/
theorem join32_split32 (b : Block) : join32 (split32 b) = b := by
  simp only [join32, split32, w32]
  rw [extract_adjacent b 64 32 32, extract_adjacent b 32 64 32, extract_adjacent b 0 96 32]
  exact BitVec.extractLsb'_eq_self

/-- split32 undoes join32. -/
theorem split32_join32 (x : Words4) : split32 (join32 x) = x := by
  rcases x with ⟨a, b, c, d⟩
  simp only [split32, join32, w32, Words4.mk.injEq]
  refine ⟨?_, ?_, ?_, ?_⟩ <;> (repeat rw [extract_append_high _ _ _ _ (by decide)]) <;>
    first
    | exact BitVec.extractLsb'_eq_self
    | (rw [extract_append_low _ _ _ _ (by decide)]; exact BitVec.extractLsb'_eq_self)

/-- join16 undoes split16. -/
theorem join16_split16 (b : Block) : join16 (split16 b) = b := by
  simp only [join16, split16, w16]
  rw [extract_adjacent b 96 16 16, extract_adjacent b 80 32 16, extract_adjacent b 64 48 16, extract_adjacent b 48 64 16,
    extract_adjacent b 32 80 16, extract_adjacent b 16 96 16, extract_adjacent b 0 112 16]
  exact BitVec.extractLsb'_eq_self

/-- Reading the mask back after a write gives the value written. -/
theorem maskValue_maskWords (v : Word64) : maskValue (maskWords v) = v := by
  simp only [maskValue, maskWords]
  rw [extract_adjacent v 0 32 32]
  exact BitVec.extractLsb'_eq_self

/-- Writing the mask it already holds changes nothing. -/
theorem maskWords_maskValue (l : MaskWords) : maskWords (maskValue l) = l := by
  rcases l with ⟨a, b⟩
  simp only [maskValue, maskWords, MaskWords.mk.injEq]
  constructor
  · rw [extract_append_high _ _ _ _ (by decide)]; exact BitVec.extractLsb'_eq_self
  · rw [extract_append_low _ _ _ _ (by decide)]; exact BitVec.extractLsb'_eq_self

/-- The high half of four joined words is the first two words (43_cofb_fsm.md R158). -/
theorem maskWords_highHalf_join32 (x : Words4) : maskWords (highHalf (join32 x)) = ⟨x.w0, x.w1⟩ := by
  rcases x with ⟨a, b, c, d⟩
  have h : highHalf (join32 ⟨a, b, c, d⟩) = maskValue ⟨a, b⟩ := by
    simp only [highHalf, join32, maskValue]
    rw [extract_append_high _ _ _ _ (by decide), extract_append_high _ _ _ _ (by decide)]
    exact BitVec.extractLsb'_eq_self
  rw [h, maskWords_maskValue]

end Sys2Proof.Laws
end

