-- ==== Sys2Proof/Tests/Slice0.lean ====
section
/-! SUPPORT. Tests of the model, their expected values from 95_test_vectors.md or from the examples of the rules cited, and, for
every statement that has hypotheses, a witness that meets them. -/

namespace Sys2Proof.Tests

open Sys2Proof.Machine Sys2Proof.Safety

/-! ### Helpers -/

/-- A field of the next state; none when the machine stops. -/
def read {α : Type} (f : State → α) : Result → Option α
  | .next s => some (f s)
  | .fault _ => none
  | .refused _ => none

/-- A machine that goes on. -/
def answers (r : Result) : Bool := (read (fun _ => ()) r).isSome

theorem exists_next_of_answers {r : Result} (h : answers r = true) : ∃ t, r = .next t := by
  cases r with
  | next t => exact ⟨t, rfl⟩
  | fault c => cases h
  | refused c => cases h

/-- A run of three commands that goes through, with its first and last observation. -/
theorem exists_run_of_seen {cmds : List (Word32 × Block)} {s : State} {a b : Observation}
    (h : (runCommands cmds s).map (fun r => (r.2[0]?, r.2[2]?)) = some (some a, some b)) :
    ∃ u seen, runCommands cmds s = some (u, seen) ∧ seen[0]? = some a ∧ seen[2]? = some b := by
  cases hr : runCommands cmds s with
  | none => rw [hr] at h; cases h
  | some r =>
    rw [hr] at h
    simp only [Option.map_some, Option.some.injEq, Prod.mk.injEq] at h
    exact ⟨r.1, r.2, rfl, h.1, h.2⟩

/-- A state inside a session, KEY = 0, with the given FSM, DIR, counters, Y, L and operand. -/
def session (f : Fsm) (dir : Dir) (a m : Word64) (y : Block) (l : Word64) (d : Block) : State :=
  { State.reset with
    fsm := f, dir := dir, adRem := a, msgRem := m, yReg := split32 y, lReg := maskWords l, din := d }

/-- The reset state with KEY and an operand. -/
def primed (k d : Block) : State := { State.reset with key := k, din := d }

/-- The reset state with something in every register that a session could have left. -/
def dirty : State :=
  { State.reset with
    sReg := ⟨1#32, 2#32, 3#32, 4#32⟩, wReg := ⟨1#16, 2#16, 3#16, 4#16, 5#16, 6#16, 7#16, 8#16⟩, key := 9#128
    yReg := ⟨5#32, 6#32, 7#32, 8#32⟩, lReg := ⟨9#32, 10#32⟩, dlen := 11#64, mlen := 12#64, adRem := 0#64, msgRem := 13#64
    dout := 14#128, fsm := .msgFinal, dir := .decrypt, err := true, errCode := .badState, errCmd := 0x41#32 }

/-- Latencies of a datapath with one round per edge (70_reset_and_hazards.md R238). -/
def oneRoundPerEdge : Config.Latency :=
  { Config.Latency.oneEdge with
    bcperm := (List.range 41).map (fun r => r + 1), start := 41, adInt := 41, adFin := List.replicate 4 41
    msgInt := 41, msgFin := List.replicate 2 41 }

/-- L, Y, DOUT, FSM and the counters: a row of the traces of section 2.4. -/
def traceRow (s : State) : Word64 × Block × Block × Fsm × Word64 × Word64 :=
  (maskValue s.lReg, join32 s.yReg, s.dout, s.fsm, s.adRem, s.msgRem)

/-! ### WellFormed: an ill-formed term is refused (30_encoding.md R72) -/

theorem test_bcperm_41_is_ill_formed : (Instr.bcperm 41#6).wellFormed = false := by decide

theorem test_bcperm_40_is_well_formed : (Instr.bcperm 40#6).wellFormed = true := by decide

theorem test_ill_formed_bcperm_word_is_refused : decode (encode (.bcperm 41#6)) = .error .badField := by decide

/-! ### Decoding: each word written out from the opcode map (30_encoding.md R76; 95_test_vectors.md section 2.6) -/

theorem test_decode_control_words :
    decode 0b00000000000000000000000000000000#32 = .ok .nop
    ∧ decode 0b00000000000000000000000000000001#32 = .ok .clrerr
    ∧ decode 0b00000000000000000000000000000010#32 = .ok .abort
    ∧ decode 0b00000000000000000000000000000011#32 = .ok .rderr := by decide

theorem test_decode_block_cipher_words :
    decode 0b00000000000000000000000000001000#32 = .ok .ldkey
    ∧ decode 0b00000000000000000000000000010000#32 = .ok .bcinit
    ∧ decode 0b00000000000000000010100000010001#32 = .ok (.bcperm 40#6)
    ∧ decode 0b00000000000000000000000000010001#32 = .ok (.bcperm 0#6)
    ∧ decode 0b00000000000000000001010100010001#32 = .ok (.bcperm 21#6)
    ∧ decode 0b00000000000000000000000000010010#32 = .ok .rds
    ∧ decode 0b00000000000000000000000000010011#32 = .ok .rdw := by decide

theorem test_decode_field_doubling_words :
    decode 0b00000000000000000000000000100000#32 = .ok .ldl
    ∧ decode 0b00000000000000000000000000100001#32 = .ok .rdl
    ∧ decode 0b00000000000000000000000000100010#32 = .ok .mul2
    ∧ decode 0b00000000000000000000000000100011#32 = .ok .mul3 := by decide

theorem test_decode_feedback_word : decode 0b00000000000000000000000000110000#32 = .ok .fbg := by decide

theorem test_decode_aead_core_words :
    decode 0b00000000000000000000000000001001#32 = .ok .ldlen
    ∧ decode 0b00000000000000000000000000001010#32 = .ok .rdlen
    ∧ decode 0b00000000000000000000000001000000#32 = .ok (.start .encrypt)
    ∧ decode 0b00000000000000000100000001000000#32 = .ok (.start .decrypt)
    ∧ decode 0b00000000000000000000000001000001#32 = .ok .ad
    ∧ decode 0b00000000000000000000000001000010#32 = .ok .msg
    ∧ decode 0b00000000000000000000000001000011#32 = .ok .tag := by decide

theorem test_decode_verify_word : decode 0b00000000000000000000000001000100#32 = .ok .verify := by decide

/-- Section 2.6: the words that fail a check, with the check that fails first. -/
theorem test_decode_rejections :
    decode 0x00002911#32 = .error .badField
    ∧ decode 0x00004041#32 = .error .badField
    ∧ decode 0x00008000#32 = .error .badField
    ∧ decode 0x00000141#32 = .error .badField
    ∧ decode 0x00000140#32 = .error .badField
    ∧ decode 0x000000FF#32 = .error .illegalOpcode
    ∧ decode 0x80000004#32 = .error .illegalOpcode := by decide

/-- No two rows of the opcode map share an OPC value. -/
theorem test_opcode_map_rows_differ : opcodeMap.Pairwise (fun a b => a.1 ≠ b.1) := by decide

theorem test_opcode_map_has_21_rows : opcodeMap.length = 21 := by decide

/-- The word placed in front of the step is the word decodeTableWord reads, and it is legal right after reset. -/
theorem test_withFetchWord_runs_ldkey :
    read (fun s => (s.err, s.busy, s.host)) (step (State.reset.withFetchWord 32 0x00000008)) = some (false, false, []) := by
  decide +kernel

/-! ### Tables and the round function (95_test_vectors.md section 2.1) -/

theorem test_permutation_tables_closed_form :
    (List.range 32).all (fun i =>
      permTable0[i]? == some (i / 4 + 8 * ((4 - i % 4) % 4)) && permTable1[i]? == some (i / 4 + 8 * ((5 - i % 4) % 4))
      && permTable2[i]? == some (i / 4 + 8 * ((6 - i % 4) % 4)) && permTable3[i]? == some (i / 4 + 8 * ((7 - i % 4) % 4)))
    = true := by decide +kernel

theorem test_subCells_vector :
    subCells ⟨0x12345678#32, 0x9ABCDEF0#32, 0x0F1E2D3C#32, 0x4B5A6978#32⟩
      = ⟨0x21076543#32, 0x46504074#32, 0x97B2F3F4#32, 0x1A3C1E30#32⟩ := by decide

/-- The first row is the one a table read in the other direction fails. -/
theorem test_permBits_direction :
    permBits ⟨2#32, 2#32, 2#32, 2#32⟩ = ⟨0x01000000#32, 0x00000001#32, 0x00000100#32, 0x00010000#32⟩
    ∧ permBits ⟨0x12345678#32, 0x9ABCDEF0#32, 0x0F1E2D3C#32, 0x4B5A6978#32⟩
      = ⟨0x661E01AA#32, 0x1EFEAA66#32, 0x55665A55#32, 0x665AAA55#32⟩ := by decide +kernel

theorem test_addRoundKey_vectors :
    addRoundKey 0 (split16 0x000102030405060708090A0B0C0D0E0F#128) Words4.zero
      = ⟨0#32, 0x0C0D0E0F#32, 0x04050607#32, 0x80000001#32⟩
    ∧ addRoundKey 39 (split16 0x000102030405060708090A0B0C0D0E0F#128) Words4.zero
      = ⟨0#32, 0x0C0D0E0F#32, 0x04050607#32, 0x8000001A#32⟩ := by decide +kernel

theorem test_keyUpdate_reads_before_the_shift :
    keyUpdate ⟨0x8001#16, 0#16, 0#16, 0#16, 0#16, 0#16, 0x0003#16, 0x1001#16⟩
      = ⟨0xC000#16, 0x0011#16, 0x8001#16, 0#16, 0#16, 0#16, 0#16, 0#16⟩ := by decide

theorem test_two_rounds_from_zero :
    permute 2 (initCipher 0#128 0#128)
      = ⟨⟨0x00008001#32, 0xFF7FFEFF#32, 0x80010000#32, 0x7FFFFFFC#32⟩, KeyWords.zero⟩ := by decide +kernel

theorem test_block_cipher_vectors :
    blockCipher 0#128 0#128 = 0x5E8E3A2E1697A77DCC0B89DCD97A64EE#128
    ∧ blockCipher 0x000102030405060708090A0B0C0D0E0F#128 0x000102030405060708090A0B0C0D0E0F#128
      = 0xA94AF7F9BA181DF9B2B00EB7DBFA93DF#128 := by decide +kernel

/-! ### Field doubling, feedback, padding, comparison (sections 2.2 to 2.5) -/

theorem test_field_doubling_vectors :
    mulAlpha 0x8000000000000001#64 = 0x0000000000000019#64 ∧ mulAlpha 0xFFFFFFFFFFFFFFFF#64 = 0xFFFFFFFFFFFFFFE5#64
    ∧ mulAlpha 0x4000000000000000#64 = 0x8000000000000000#64
    ∧ mulAlphaPlus1 0x0123456789ABCDEF#64 = 0x0365CFA89AFC5631#64 := by decide

theorem test_feedback_vectors :
    feedback 0x0123456789ABCDEFFEDCBA9876543210#128 = 0xFEDCBA987654321002468ACF13579BDE#128
    ∧ feedback 0x80000000000000010000000000000000#128 = 0x00000000000000000000000000000003#128 := by decide

theorem test_pad_vectors :
    pad (BitVec.allOnes 128) 0 = 0x80000000000000000000000000000000#128
    ∧ pad (BitVec.allOnes 128) 8 = 0xFFFFFFFFFFFFFFFF8000000000000000#128
    ∧ pad (BitVec.allOnes 128) 15 = 0xFFFFFFFFFFFFFFFFFFFFFFFFFFFFFF80#128
    ∧ pad (BitVec.allOnes 128) 16 = BitVec.allOnes 128 := by decide +kernel

theorem test_trunc_vectors :
    trunc (BitVec.allOnes 128) 12 = 0xFFFFFFFFFFFFFFFFFFFFFFFF00000000#128
    ∧ trunc (BitVec.allOnes 128) 16 = BitVec.allOnes 128 := by decide +kernel

theorem test_final_mask_schedule :
    finalAdMask 16 12#64 0x5E8E3A2E1697A77D#64 = 0xE3924E723BB8E987#64
    ∧ finalAdMask 8 12#64 0x5E8E3A2E1697A77D#64 = 0x24B6D2964CC93A92#64
    ∧ finalAdMask 16 0#64 0x5E8E3A2E1697A77D#64 = 0x6DDB77BAD55B4FB6#64
    ∧ finalAdMask 0 0#64 0x5E8E3A2E1697A77D#64 = 0xB66D98CF7FEDD0DA#64 := by decide

theorem test_ctAccumulate_vectors :
    ctAccumulate 0x92E25A34C5A80F66F474E0B2B577479A#128 0x92E25A34C5A80F66F474E0B2B577479A#128 = 0x00#8
    ∧ ctAccumulate 0x93E25A34C5A80F66F474E0B2B577479A#128 0x92E25A34C5A80F66F474E0B2B577479A#128 = 0x01#8
    ∧ ctAccumulate 0x92E25A34C5A80F66F474E0B2B577471A#128 0x92E25A34C5A80F66F474E0B2B577479A#128 = 0x80#8
    ∧ ctAccumulate 0x92E25A34C5A80F99F474E0B2B577479A#128 0x92E25A34C5A80F66F474E0B2B577479A#128 = 0xFF#8 := by
  decide +kernel

/-- Section 2.4, (dlen, mlen) = (0, 17) of the length classes: R166 against the printed ciphertext's last byte and the tag. -/
theorem test_reference_encryption_0_17 :
    (cofbEnc 0x000102030405060708090A0B0C0D0E0F#128 0x000102030405060708090A0B0C0D0E0F#128 []
        ((List.range 17).map (fun i => BitVec.ofNat 8 (5 * i + 1)))).2
      = 0xED8E8ACD3C11D50760CB0B89901E57DD#128
    ∧ (cofbEnc 0x000102030405060708090A0B0C0D0E0F#128 0x000102030405060708090A0B0C0D0E0F#128 []
        ((List.range 17).map (fun i => BitVec.ofNat 8 (5 * i + 1)))).1.getLast? = some 0x86#8 := by decide +kernel

/-! ### One command each -/

/-- R200's example: STATUS = 0x00000004 stays. -/
theorem test_nop_keeps_status : read status (exec .nop { State.reset with fsm := .adFinal }) = some 0x00000004#32 := by decide

/-- R201's example, inside a session. -/
theorem test_clrerr_clears_the_record :
    read (fun s => (s.err, s.errCode, s.errCmd, s.fsm)) (exec .clrerr dirty) = some (false, .noError, 0#32, .msgFinal) := by
  decide

/-- R202: what ABORT clears. -/
theorem test_abort_scrubs :
    read (fun s => (s.sReg, s.wReg, s.yReg, s.lReg)) (exec .abort dirty)
      = some (Words4.zero, KeyWords.zero, Words4.zero, MaskWords.zero)
    ∧ read (fun s => (s.msgRem, s.dout, s.fsm)) (exec .abort dirty) = some (0#64, 0#128, .init) := by decide

/-- R202: what ABORT keeps. -/
theorem test_abort_keeps_key_lengths_direction_and_record :
    read (fun s => (s.key, s.dlen, s.mlen, s.dir)) (exec .abort dirty) = some (9#128, 11#64, 12#64, .decrypt)
    ∧ read (fun s => (s.err, s.errCode, s.errCmd)) (exec .abort dirty) = some (true, .badState, 0x41#32) := by decide

/-- R203's example. -/
theorem test_rderr_reads_the_word : read (·.dout) (exec .rderr dirty) = some 0x00000000000000000000000000000041#128 := by decide

/-- R114's example; W is not touched. -/
theorem test_ldkey_loads_key :
    read (fun s => (s.key, s.wReg)) (exec .ldkey (primed 0#128 0x000102030405060708090A0B0C0D0E0F#128))
      = some (0x000102030405060708090A0B0C0D0E0F#128, KeyWords.zero) := by decide

/-- Program P7, line 7: LDKEY inside a session. -/
theorem test_ldkey_in_session_is_rejected :
    read (fun s => (s.key, s.err, s.errCode, s.errCmd))
        (exec .ldkey { primed 5#128 7#128 with fsm := .adIntermediate, cmd := 0x00000008#32 })
      = some (5#128, true, .badState, 0x00000008#32) := by decide

/-- R156's example. -/
theorem test_ldlen_loads_lengths :
    read (fun s => (s.dlen, s.mlen)) (exec .ldlen (primed 0#128 0x0000000000000008000000000000000C#128)) = some (8#64, 12#64) := by
  decide

/-- R157's example. -/
theorem test_rdlen_reads_counters :
    read (·.dout) (exec .rdlen (session .adIntermediate .encrypt 40#64 5#64 0#128 0#64 0#128))
      = some 0x00000000000000280000000000000005#128 := by decide

/-- R115's example. -/
theorem test_bcinit_loads_block_and_key :
    read (fun s => (s.sReg, s.wReg)) (exec .bcinit (primed 0x000102030405060708090A0B0C0D0E0F#128 0#128))
      = some (Words4.zero, ⟨0x0001#16, 0x0203#16, 0x0405#16, 0x0607#16, 0x0809#16, 0x0A0B#16, 0x0C0D#16, 0x0E0F#16⟩) := by decide

/-- R116's example, and R = 0. -/
theorem test_bcperm_one_round :
    read (fun s => (s.sReg, s.wReg)) (exec (.bcperm 1#6) State.reset)
      = some (⟨0xFFFFFFFF#32, 0#32, 0#32, 0x80000001#32⟩, KeyWords.zero)
    ∧ read (fun s => (s.sReg, s.wReg)) (exec (.bcperm 0#6) { dirty with fsm := .init })
      = some (dirty.sReg, dirty.wReg) := by decide +kernel

/-- Section 2.1, all ones. -/
theorem test_bcperm_forty_rounds :
    read (fun s => (s.sReg, s.wReg))
        (exec (.bcperm 40#6) { State.reset with sReg := split32 (BitVec.allOnes 128), wReg := split16 (BitVec.allOnes 128) })
      = some (⟨0xB7167488#32, 0x48BB2158#32, 0x672C5A43#32, 0x3197BFF6#32⟩, split16 (BitVec.allOnes 128)) := by decide +kernel

theorem test_rds_word_order :
    read (·.dout) (exec .rds { State.reset with sReg := ⟨1#32, 2#32, 3#32, 4#32⟩ })
      = some 0x00000001000000020000000300000004#128 := by decide

/-- Program P1, line 5. -/
theorem test_rdw_word_order :
    read (·.dout) (exec .rdw { State.reset with
        wReg := ⟨0x1000#16, 0x0302#16, 0x5040#16, 0x0706#16, 0x9080#16, 0x0B0A#16, 0xD0C0#16, 0x0F0E#16⟩ })
      = some 0x100003025040070690800B0AD0C00F0E#128 := by decide

/-- R134: the low half of din is ignored. -/
theorem test_ldl_ignores_the_low_half :
    read (·.lReg) (exec .ldl (primed 0#128 0x8000000000000000FFFFFFFFFFFFFFFF#128)) = some ⟨0x80000000#32, 0#32⟩ := by decide

/-- R135's example. -/
theorem test_rdl_reads_the_mask :
    read (·.dout) (exec .rdl { State.reset with lReg := ⟨0x01234567#32, 0x89ABCDEF#32⟩ })
      = some 0x0123456789ABCDEF0000000000000000#128 := by decide

/-- Program P2, lines 1 and 2. -/
theorem test_mul2_reduces :
    read (·.lReg) (exec .mul2 { State.reset with lReg := ⟨0x80000000#32, 0x00000001#32⟩ }) = some ⟨0#32, 0x00000019#32⟩ := by
  decide

/-- Program P2, line 4. -/
theorem test_mul3_multiplies :
    read (·.lReg) (exec .mul3 { State.reset with lReg := ⟨0#32, 0x00000019#32⟩ }) = some ⟨0#32, 0x0000002B#32⟩ := by decide

/-- R142's example, inside a session. -/
theorem test_fbg_maps_din :
    read (fun s => (s.dout, s.fsm))
        (exec .fbg { primed 0#128 0x0123456789ABCDEFFEDCBA9876543210#128 with fsm := .msgFinal })
      = some (0xFEDCBA987654321002468ACF13579BDE#128, .msgFinal) := by decide

/-- R158's example: L takes the high half of Y. -/
theorem test_start_opens_scenario_4 :
    read traceRow (exec (.start .encrypt) { State.reset with dlen := 8#64, mlen := 12#64 })
      = some (0x5E8E3A2E1697A77D#64, 0x5E8E3A2E1697A77DCC0B89DCD97A64EE#128, 0#128, .adFinal, 8#64, 12#64) := by decide +kernel

/-- A START in decryption clears the last result; 17 AD bytes make an intermediate block (R158). -/
theorem test_start_decrypt_clears_the_result :
    read (fun s => (s.dir, s.authDone, s.authOk, s.fsm))
        (exec (.start .decrypt) { State.reset with dlen := 17#64, authDone := true, authOk := true })
      = some (.decrypt, false, false, .adIntermediate) := by decide +kernel

/-- Section 2.4, (17, 31), the first AD: KEY is 00..0F there. -/
theorem test_ad_intermediate_block :
    read traceRow (exec .ad { session .adIntermediate .encrypt 17#64 31#64 0xA94AF7F9BA181DF9B2B00EB7DBFA93DF#128
        0xA94AF7F9BA181DF9#64 0x030A11181F262D343B424950575E656C#128 with key := 0x000102030405060708090A0B0C0D0E0F#128 })
      = some (0x5295EFF374303BE9#64, 0x76E979FE0FF0040710892164597BE07D#128, 0#128, .adFinal, 1#64, 31#64) := by decide +kernel

/-- Section 2.4, scenario 4's AD, with junk in the ignored lanes. -/
theorem test_ad_final_block :
    read traceRow (exec .ad (session .adFinal .encrypt 8#64 12#64 0x5E8E3A2E1697A77DCC0B89DCD97A64EE#128
        0x5E8E3A2E1697A77D#64 0x0001020304050607FFFFFFFFFFFFFFFF#128))
      = some (0x24B6D2964CC93A92#64, 0x59B32DCF6B9E11AC4C8ACF3AEC9333DE#128, 0#128, .msgFinal, 0#64, 12#64) := by decide +kernel

/-- Section 2.4, scenario 5's first MSG. -/
theorem test_msg_intermediate_block :
    read traceRow (exec .msg (session .msgIntermediate .encrypt 0#64 32#64 0x86FEF60F066B427EE9919A1D47A3F5D5#128
        0xE3924E723BB8E987#64 0x101112131415161718191A1B1C1D1E1F#128))
      = some (0xC7249CE47771D315#64, 0xCAFCC307AC21507E9CAFCC4D4DE639D6#128, 0x96EFE41C127E5469F18880065BBEEBCA#128,
          .msgFinal, 0#64, 16#64) := by decide +kernel

/-- Program P4, line 4: decryption of scenario 4's final block, with junk in the ignored lanes. -/
theorem test_msg_final_block_decrypts :
    read traceRow (exec .msg (session .msgFinal .decrypt 0#64 12#64 0x59B32DCF6B9E11AC4C8ACF3AEC9333DE#128
        0x24B6D2964CC93A92#64 0x51BA27C467931FA35C9BDD29FFFFFFFF#128))
      = some (0xB66D98CF7FEDD0DA#64, 0x92E25A34C5A80F66F474E0B2B577479A#128, 0x08090A0B0C0D0E0F1011121300000000#128,
          .tag, 0#64, 0#64) := by decide +kernel

/-- R164's example. -/
theorem test_tag_gives_y :
    read (fun s => (s.dout, s.yReg, s.fsm)) (exec .tag (session .tag .encrypt 0#64 0#64 0x92E25A34C5A80F66F474E0B2B577479A#128
        0xB66D98CF7FEDD0DA#64 0#128))
      = some (0x92E25A34C5A80F66F474E0B2B577479A#128, Words4.zero, .init) := by decide

/-- Program P9, line 4. -/
theorem test_tag_in_decryption_is_rejected :
    read status (exec .tag (session .tag .decrypt 0#64 0#64 0x157B074CC19421593F70A36C8F6FE40D#128 0#64 0#128))
      = some 0x0000049A#32 := by decide

/-- R190's example, the right tag: STATUS of program P4. -/
theorem test_verify_accepts :
    read (fun s => (status s, s.dout)) (exec .verify (session .tag .decrypt 0#64 0#64 0x92E25A34C5A80F66F474E0B2B577479A#128
        0#64 0x92E25A34C5A80F66F474E0B2B577479A#128))
      = some (0x00000070#32, 0#128) := by decide +kernel

/-- R190's example, one bit flipped: STATUS of program P4b. -/
theorem test_verify_refuses :
    read (fun s => (status s, s.dout)) (exec .verify (session .tag .decrypt 0#64 0#64 0x92E25A34C5A80F66F474E0B2B577479A#128
        0#64 0x93E25A34C5A80F66F474E0B2B577479A#128))
      = some (0x00000030#32, 0#128) := by decide +kernel

/-! ### Edges -/

/-- R237: a START of latency 41 is accepted, and then BUSY with 40 edges left. -/
theorem test_slow_start_is_busy :
    read (fun s => (s.busy, s.wait, s.fsm))
        (step { State.reset with lat := oneRoundPerEdge, host := [.command 0x00000040#32 0#128] })
      = some (true, 40, .init) := by decide +kernel

/-- R232: a reset edge abandons it. -/
theorem test_reset_abandons :
    read (fun s => (s.busy, s.key, s.fsm)) (step { dirty with busy := true, wait := 3, host := [.reset] })
      = some (false, 0#128, .init) := by decide

/-- Program P5, lines 1 and 2: the first error stays. -/
theorem test_first_error_stays :
    read (fun s => (s.errCode, s.errCmd))
        (step { State.reset with err := true, errCode := .badState, errCmd := 0x41#32, host := [.command 0x000000FF#32 0#128] })
      = some (.badState, 0x41#32) := by decide

/-! ### Witnesses: for every statement that has hypotheses, values that meet them, at the boundaries of its clauses -/

theorem witness_DecodeOfEncode :
    (Instr.bcperm 40#6).wellFormed = true ∧ (Instr.start .decrypt).wellFormed = true ∧ Instr.verify.wellFormed = true := by
  decide

theorem witness_EncodeOfDecode : decode 0x00002811#32 = .ok (.bcperm 40#6) := by decide

/-- An unassigned OPC, at both ends of a gap and of the space. -/
theorem witness_IllegalEncodings :
    Unassigned ((0x00000004#32).extractLsb' 0 8).toNat ∧ Unassigned ((0x00000007#32).extractLsb' 0 8).toNat
    ∧ Unassigned ((0x00000045#32).extractLsb' 0 8).toNat ∧ Unassigned ((0x000000FF#32).extractLsb' 0 8).toNat
    ∧ ¬ Unassigned ((0x00000044#32).extractLsb' 0 8).toNat
    ∧ decode ({ State.reset with cmd := 0x00002911#32 } : State).cmd = .error .badField := by decide

/-- A command of latency 1 at the ports; and a running command at its last edge. -/
theorem witness_StepRunsDecoded :
    let s : State := { State.reset with host := [.command 0x00000008#32 5#128] }
    let t : State := { State.reset with busy := true, wait := 1, cmd := 0x00000008#32, din := 5#128 }
    (s.busy = false ∧ decode 0x00000008#32 = .ok .ldkey
      ∧ latency { s with host := [], cmd := 0x00000008#32, din := 5#128 } = 1)
    ∧ (t.busy = true ∧ t.wait = 1 ∧ rstIn t = false ∧ (∀ later, t.host ≠ .idle :: later) ∧ decode t.cmd = .ok .ldkey)
    ∧ ({ t with host := [.idle] } : State).host = .idle :: [] := by
  refine ⟨by decide +kernel, ⟨rfl, rfl, rfl, ?_, by decide⟩, rfl⟩
  intro later h
  cases h

/-- A START of latency 41: the edges before the last exist. -/
theorem witness_CompletesAfterLatency :
    let s : State := { State.reset with lat := oneRoundPerEdge }
    s.busy = false ∧ s.host = [] ∧ 1 ≤ 40 ∧ 40 < latency (sample 0x00000040#32 0#128 s)
    ∧ (∃ t, command 0x00000040#32 0#128 s = .next t)
    ∧ checkCommand (sample 0x00000041#32 0#128 s) = .error .badState :=
  ⟨rfl, rfl, by decide, by decide +kernel, exists_next_of_answers (by decide +kernel), rfl⟩

/-- A reset while a command runs, followed by another reset and by a command. -/
theorem witness_ResetAtAnyEdge :
    ({ dirty with busy := true, wait := 3, host := [.reset, .reset] } : State).host = .reset :: [.reset]
    ∧ ({ dirty with host := [.reset, .command 0#32 0#128] } : State).host = .reset :: [.command 0#32 0#128] := by decide

theorem witness_OutputPorts :
    dirty.busy = false ∧ ({ dirty with busy := true, wait := 1 } : State).busy = true ∧ cmdReady dirty = true := by decide

/-- A held command, and an idle edge, and no move at all. -/
theorem witness_HandshakeHold :
    let s : State := { State.reset with busy := true, wait := 2, host := [.command 0x00000001#32 0#128] }
    s.busy = true ∧ s.host = .command 0x00000001#32 0#128 :: [] ∧ step s = .next { s with wait := 1 }
    ∧ ({ State.reset with host := [.idle] } : State).host = .idle :: [] ∧ State.reset.host = [] := by
  exact ⟨rfl, rfl, rfl, rfl, rfl⟩

/-- Three commands that run, the first of latency 41, and what the host sees after the first and after the last. -/
theorem witness_EdgesRefineCommands :
    let s : State := { State.reset with lat := oneRoundPerEdge }
    s.busy = false ∧ s.host = []
    ∧ ∃ u seen, runCommands [(0x00000040#32, 0#128), (0x00000041#32, 0#128), (0x00000043#32, 0#128)] s = some (u, seen)
      ∧ seen[0]? = some (0#128, 0x00000004#32)
      ∧ seen[2]? = some (0x157B074CC19421593F70A36C8F6FE40D#128, 0x00000000#32) := by
  refine ⟨rfl, rfl, exists_run_of_seen (by decide +kernel)⟩

/-- A rejected word, and an executed one for each kind of parameter, with the choices of the two final-block parameters. -/
theorem witness_LatencyParameters :
    checkCommand { State.reset with cmd := 0x00000041#32 } = .error .badState
    ∧ checkCommand { State.reset with cmd := 0x00000001#32 } = .ok .clrerr
    ∧ checkCommand { State.reset with cmd := 0x00002811#32 } = .ok (.bcperm 40#6)
    ∧ checkCommand { State.reset with cmd := 0x00004040#32 } = .ok (.start .decrypt)
    ∧ checkCommand { session .adIntermediate .encrypt 17#64 0#64 0#128 0#64 0#128 with cmd := 0x00000041#32 } = .ok .ad
    ∧ checkCommand { session .adFinal .encrypt 16#64 0#64 0#128 0#64 0#128 with cmd := 0x00000041#32 } = .ok .ad
    ∧ checkCommand { session .msgIntermediate .encrypt 0#64 17#64 0#128 0#64 0#128 with cmd := 0x00000042#32 } = .ok .msg
    ∧ checkCommand { session .msgFinal .encrypt 0#64 16#64 0#128 0#64 0#128 with cmd := 0x00000042#32 } = .ok .msg
    ∧ checkCommand { session .tag .encrypt 0#64 0#64 0#128 0#64 0#128 with cmd := 0x00000043#32 } = .ok .tag
    ∧ checkCommand { session .tag .decrypt 0#64 0#64 0#128 0#64 0#128 with cmd := 0x00000044#32 } = .ok .verify :=
  ⟨rfl, rfl, rfl, rfl, rfl, rfl, rfl, rfl, rfl, rfl⟩

/-- Two machines with different keys, masks and operands. -/
theorem witness_ConstantTime :
    SamePublic { State.reset with host := [.command 0x00000008#32 0#128] }
      { State.reset with
        key := 1#128, sReg := ⟨1#32, 2#32, 3#32, 4#32⟩, lReg := ⟨5#32, 6#32⟩, authOk := true
        host := [.command 0x00000008#32 7#128] } := by
  refine ⟨rfl, rfl, rfl, rfl, rfl, rfl, rfl, rfl, rfl, rfl, rfl, rfl, rfl, rfl, fun _ => rfl, ?_⟩
  exact .cons ⟨rfl, fun h => absurd h (by decide)⟩ .nil

/-- Mid-session states at the boundary values of the counters meet the invariant, and a step from one goes on. -/
theorem witness_StepKeepsInv :
    let s : State := { session .adIntermediate .encrypt 17#64 17#64 0#128 0#64 0#128 with host := [.command 0x00000041#32 3#128] }
    Safety.Inv s ∧ ∃ t, step s = .next t :=
  ⟨by decide, exists_next_of_answers (by decide +kernel)⟩

theorem witness_StepNeverStops :
    Safety.Inv (session .adIntermediate .encrypt 17#64 0#64 0#128 0#64 0#128)
    ∧ Safety.Inv (session .adFinal .decrypt 16#64 17#64 0#128 0#64 0#128)
    ∧ Safety.Inv (session .msgIntermediate .encrypt 0#64 17#64 0#128 0#64 0#128)
    ∧ Safety.Inv (session .msgFinal .encrypt 0#64 1#64 0#128 0#64 0#128)
    ∧ Safety.Inv (session .msgFinal .decrypt 0#64 16#64 0#128 0#64 0#128)
    ∧ Safety.Inv (session .tag .decrypt 0#64 0#64 0#128 0#64 0#128)
    ∧ ¬ Safety.Inv (session .adIntermediate .encrypt 16#64 0#64 0#128 0#64 0#128) :=
  ⟨by decide, by decide, by decide, by decide, by decide, by decide, by decide⟩

/-- One command word for each branch of the chain: each of the four errors, and a command that passes. -/
theorem witness_ChecksInOrder :
    checkCommand { State.reset with cmd := 0x80000004#32 } = .error .illegalOpcode
    ∧ checkCommand { State.reset with cmd := 0x00000141#32 } = .error .badField
    ∧ checkCommand { State.reset with cmd := 0x00000041#32 } = .error .badState
    ∧ checkCommand { State.reset with cmd := 0x00000043#32, fsm := .tag, dir := .decrypt } = .error .wrongDir
    ∧ checkCommand { State.reset with cmd := 0x00002811#32 } = .ok (.bcperm 40#6) := by
  refine ⟨rfl, rfl, rfl, rfl, rfl⟩

/-- A rejected command with and without an error on record. -/
theorem witness_RejectionOnlyRecords :
    failedCheck .ad State.reset = some .badState ∧ State.reset.err = false
    ∧ failedCheck .ldkey dirty = some .badState ∧ dirty.err = true
    ∧ checkCommand { dirty with cmd := 0x000000FF#32 } = .error .illegalOpcode
    ∧ checkCommand { State.reset with cmd := 0x00008000#32 } = .error .badField := by
  exact ⟨rfl, rfl, rfl, rfl, rfl, rfl⟩

theorem witness_WrongStateRejected :
    dirty.fsm ≠ .init ∧ (40#6 : BitVec 6) ≤ 40#6
    ∧ State.reset.fsm ≠ .adIntermediate ∧ State.reset.fsm ≠ .adFinal
    ∧ State.reset.fsm ≠ .msgIntermediate ∧ State.reset.fsm ≠ .msgFinal ∧ State.reset.fsm ≠ .tag := by decide

theorem witness_WrongDirectionRejected :
    (session .tag .decrypt 0#64 0#64 0#128 0#64 0#128).fsm = .tag ∧ (session .tag .decrypt 0#64 0#64 0#128 0#64 0#128).dir = .decrypt
    ∧ (session .tag .encrypt 0#64 0#64 0#128 0#64 0#128).fsm = .tag
    ∧ (session .tag .encrypt 0#64 0#64 0#128 0#64 0#128).dir = .encrypt := by decide

theorem witness_RoundCountAbove40Rejected : 40#6 < 41#6 ∧ 40#6 < 63#6 := by decide

theorem witness_ErrorsDoNotBlock :
    failedCheck .msg dirty = none ∧ Instr.msg ≠ .rderr ∧ Instr.msg ≠ .clrerr := by decide

theorem witness_CipherRegisterCommands : (primed 1#128 2#128).fsm = .init := by decide

theorem witness_BcpermRunsRounds : State.reset.fsm = .init ∧ (0#6 : BitVec 6) ≤ 40#6 ∧ (40#6 : BitVec 6) ≤ 40#6 := by decide

theorem witness_SubCellsLanes : 0 < 32 ∧ 31 < 32 := by decide

theorem witness_PermBitsDestination : 0 < 32 ∧ 31 < 32 := by decide

theorem witness_RoundConstantsGenerated : 0 < 40 ∧ 39 < 40 := by decide

theorem witness_AddRoundKeyBits : 5 < 6 ∧ 6 ≤ 6 ∧ 6 < 31 ∧ 6 ≤ 30 ∧ 30 < 31 := by decide

theorem witness_KeyReadBack : (primed 1#128 2#128).fsm = .init := by decide

theorem witness_Block128ComputesCipher : State.reset.fsm = .init := by decide

theorem witness_MaskCommands : ({ State.reset with lReg := ⟨0x80000000#32, 1#32⟩ } : State).fsm = .init := by decide

theorem witness_MulAlphaBranchFree :
    (0x8000000000000000#64).getLsbD 63 = true ∧ (0x7FFFFFFFFFFFFFFF#64).getLsbD 63 = false := by decide

theorem witness_PaddingBytes : 0 ≤ 16 ∧ 16 ≤ 16 ∧ 0 < 16 ∧ 15 < 16 := by decide

theorem witness_LengthCommands : (primed 0#128 0x0000000000000008000000000000000C#128).fsm = .init := by decide

/-- Both sides of the length 16 that START distinguishes. -/
theorem witness_StartOpensSession :
    ({ State.reset with dlen := 16#64 } : State).fsm = .init ∧ ({ State.reset with dlen := 17#64 } : State).fsm = .init := by decide

/-- The smallest count, and the counts on both sides of the next state's choice. -/
theorem witness_IntermediateAd :
    (session .adIntermediate .encrypt 17#64 0#64 0#128 0#64 1#128).fsm = .adIntermediate
    ∧ 16#64 ≤ (session .adIntermediate .encrypt 16#64 0#64 0#128 0#64 1#128).adRem
    ∧ 16#64 ≤ (session .adIntermediate .encrypt 17#64 0#64 0#128 0#64 1#128).adRem
    ∧ 16#64 ≤ (session .adIntermediate .encrypt 32#64 0#64 0#128 0#64 1#128).adRem
    ∧ 16#64 ≤ (session .adIntermediate .encrypt 33#64 0#64 0#128 0#64 1#128).adRem := by decide

/-- No byte and 16 bytes, before no message, a final message block and an intermediate one. -/
theorem witness_FinalAd :
    (session .adFinal .encrypt 0#64 0#64 0#128 0#64 1#128).fsm = .adFinal
    ∧ (session .adFinal .encrypt 0#64 0#64 0#128 0#64 1#128).adRem ≤ 16#64
    ∧ (session .adFinal .encrypt 16#64 16#64 0#128 0#64 1#128).adRem ≤ 16#64
    ∧ (session .adFinal .encrypt 16#64 17#64 0#128 0#64 1#128).adRem ≤ 16#64 := by decide

theorem witness_IntermediateMsg :
    (session .msgIntermediate .encrypt 0#64 17#64 0#128 0#64 1#128).fsm = .msgIntermediate
    ∧ 16#64 ≤ (session .msgIntermediate .encrypt 0#64 17#64 0#128 0#64 1#128).msgRem
    ∧ 16#64 ≤ (session .msgIntermediate .decrypt 0#64 33#64 0#128 0#64 1#128).msgRem := by decide

theorem witness_FinalMsg :
    (session .msgFinal .encrypt 0#64 1#64 0#128 0#64 1#128).fsm = .msgFinal
    ∧ (session .msgFinal .encrypt 0#64 1#64 0#128 0#64 1#128).msgRem ≤ 16#64
    ∧ (session .msgFinal .decrypt 0#64 16#64 0#128 0#64 1#128).msgRem ≤ 16#64 := by decide

/-- States no run from reset reaches, at the boundary of each clause. -/
theorem witness_CounterOutOfRangeStops :
    (session .adIntermediate .encrypt 15#64 0#64 0#128 0#64 1#128).adRem < 16#64
    ∧ 16#64 < (session .adFinal .encrypt 17#64 0#64 0#128 0#64 1#128).adRem
    ∧ (session .msgIntermediate .encrypt 0#64 15#64 0#128 0#64 1#128).msgRem < 16#64
    ∧ 16#64 < (session .msgFinal .encrypt 0#64 17#64 0#128 0#64 1#128).msgRem
    ∧ (session .adIntermediate .encrypt 15#64 0#64 0#128 0#64 1#128).fsm = .adIntermediate
    ∧ (session .adFinal .encrypt 17#64 0#64 0#128 0#64 1#128).fsm = .adFinal
    ∧ (session .msgIntermediate .encrypt 0#64 15#64 0#128 0#64 1#128).fsm = .msgIntermediate
    ∧ (session .msgFinal .encrypt 0#64 17#64 0#128 0#64 1#128).fsm = .msgFinal :=
  ⟨by decide, by decide, by decide, by decide, rfl, rfl, rfl, rfl⟩

theorem witness_TagClosesSession :
    (session .tag .encrypt 0#64 0#64 7#128 0#64 0#128).fsm = .tag
    ∧ (session .tag .encrypt 0#64 0#64 7#128 0#64 0#128).dir = .encrypt := by decide

theorem witness_VerifyClosesSession :
    (session .tag .decrypt 0#64 0#64 7#128 0#64 7#128).fsm = .tag
    ∧ (session .tag .decrypt 0#64 0#64 7#128 0#64 7#128).dir = .decrypt := by decide

/-- The right tag and a wrong one. -/
theorem witness_VerifyRevealsOneBit :
    let s := session .tag .decrypt 0#64 0#64 7#128 0#64 7#128
    ∃ t u, exec .verify s = .next t ∧ exec .verify { s with din := 8#128 } = .next u ∧ t.authOk = true ∧ u.authOk = false :=
  ⟨_, _, rfl, rfl, by decide +kernel, by decide +kernel⟩

theorem witness_FsmTransitions :
    ∃ t u, exec .tag (session .tag .encrypt 0#64 0#64 7#128 0#64 0#128) = .next t ∧ t.fsm = .init
      ∧ exec .tag (session .tag .decrypt 0#64 0#64 7#128 0#64 0#128) = .next u ∧ u.fsm = .tag :=
  ⟨_, _, rfl, rfl, rfl, rfl⟩

/-- One command for each register, which does change it. -/
theorem witness_DataRegisterWriters :
    (∃ t, exec .ldkey (primed 0#128 1#128) = .next t ∧ t.key ≠ 0#128)
    ∧ (∃ t, exec .ldlen (primed 0#128 1#128) = .next t ∧ t.mlen ≠ 0#64)
    ∧ (∃ t, exec .bcinit (primed 0#128 1#128) = .next t ∧ t.sReg ≠ Words4.zero)
    ∧ (∃ t, exec .abort dirty = .next t ∧ t.yReg ≠ dirty.yReg ∧ t.lReg ≠ dirty.lReg ∧ t.msgRem ≠ dirty.msgRem)
    ∧ (∃ t, exec .abort (session .adFinal .encrypt 3#64 0#64 0#128 0#64 0#128) = .next t ∧ t.adRem ≠ 3#64)
    ∧ (∃ t, exec .fbg (primed 0#128 1#128) = .next t ∧ t.dout ≠ 0#128) :=
  ⟨⟨_, rfl, by decide⟩, ⟨_, rfl, by decide⟩, ⟨_, rfl, by decide⟩, ⟨_, rfl, by decide, by decide, by decide⟩, ⟨_, rfl, by decide⟩,
    ⟨_, rfl, by decide⟩⟩

theorem witness_ControlRegisterWriters :
    (∃ t, exec .verify (session .tag .decrypt 0#64 0#64 7#128 0#64 7#128) = .next t ∧ t.fsm ≠ .tag ∧ t.authDone ≠ false)
    ∧ (∃ t, exec .ad State.reset = .next t ∧ t.err ≠ false)
    ∧ (∃ t, exec .clrerr dirty = .next t ∧ t.err ≠ true) :=
  ⟨⟨_, rfl, by decide, by decide⟩, ⟨_, rfl, by decide⟩, ⟨_, rfl, by decide⟩⟩

/-- Operands that differ only where they are ignored: LDL's low half, and lanes r..15 at r = 0, 1 and 15. -/
theorem witness_IgnoredOperands :
    (5#128).extractLsb' 64 64 = (primed 0#128 0#128).din.extractLsb' 64 64
    ∧ (session .adFinal .encrypt 0#64 0#64 0#128 0#64 0#128).fsm = .adFinal
    ∧ (∀ k, k < (session .adFinal .encrypt 0#64 0#64 0#128 0#64 0#128).adRem.toNat →
        byteOf 5#128 k = byteOf (session .adFinal .encrypt 0#64 0#64 0#128 0#64 0#128).din k)
    ∧ (session .msgFinal .encrypt 0#64 15#64 0#128 0#64 0#128).fsm = .msgFinal
    ∧ (∀ k, k < (session .msgFinal .encrypt 0#64 15#64 0#128 0#64 0#128).msgRem.toNat →
        byteOf 5#128 k = byteOf (session .msgFinal .encrypt 0#64 15#64 0#128 0#64 0#128).din k)
    ∧ (∃ t, exec .msg (session .msgFinal .encrypt 0#64 1#64 0#128 0#64 0#128) = .next t)
    ∧ (session .msgFinal .encrypt 0#64 1#64 0#128 0#64 0#128).msgRem.toNat ≤ 1 ∧ 1 < 16 := by
  refine ⟨by decide, by decide, by decide, by decide, ?_, exists_next_of_answers (by decide +kernel), by decide, by decide⟩
  have h : ∀ k, k < 15 → byteOf 5#128 k = byteOf 0#128 k := by decide
  exact h

/-- RDW shows W, not KEY, even with another KEY; FBG inside a session with another S, W and L. -/
theorem witness_SecretsStayHidden :
    (∃ t u, exec .rdw (primed 1#128 0#128) = .next t ∧ exec .rdw { primed 1#128 0#128 with key := 2#128 } = .next u)
    ∧ dirty.fsm ≠ .init
    ∧ (∃ t u, exec .fbg dirty = .next t ∧ exec .fbg { dirty with sReg := Words4.zero, wReg := KeyWords.zero, lReg := MaskWords.zero } = .next u) :=
  ⟨⟨_, _, rfl, rfl⟩, by decide, ⟨_, _, rfl, rfl⟩⟩

theorem witness_CandidateTagHidden :
    let s := session .tag .decrypt 0#64 0#64 7#128 0#64 7#128
    s.fsm = .tag ∧ s.dir = .decrypt
    ∧ (∃ t u, exec .tag s = .next t ∧ exec .tag { s with yReg := ⟨1#32, 1#32, 1#32, 1#32⟩ } = .next u)
    ∧ (∃ t u, exec .verify s = .next t ∧ exec .verify { s with yReg := ⟨1#32, 1#32, 1#32, 1#32⟩ } = .next u) :=
  ⟨rfl, rfl, ⟨_, _, rfl, rfl⟩, ⟨_, _, rfl, rfl⟩⟩

/-- A session of 17 AD bytes and 5 message bytes, and the empty session. -/
theorem witness_SessionEncrypts :
    let s : State := { State.reset with dlen := 17#64, mlen := 5#64 }
    s.fsm = .init ∧ (List.replicate 17 0xA5#8).length < 2 ^ 64 ∧ (List.replicate 5 0x5A#8).length < 2 ^ 64
    ∧ s.dlen = BitVec.ofNat 64 (List.replicate 17 0xA5#8).length ∧ s.mlen = BitVec.ofNat 64 (List.replicate 5 0x5A#8).length
    ∧ State.reset.dlen = BitVec.ofNat 64 ([] : List Byte).length := by decide

/-- The same session in decryption: its commands do run. -/
theorem witness_SessionDecrypts :
    let s : State := { State.reset with dlen := 17#64, mlen := 5#64 }
    s.fsm = .init ∧ s.dlen = BitVec.ofNat 64 (List.replicate 17 0xA5#8).length
    ∧ s.mlen = BitVec.ofNat 64 (List.replicate 5 0x5A#8).length
    ∧ (runCommands (sessionCommands .decrypt 3#128 (List.replicate 17 0xA5#8) (List.replicate 5 0x5A#8) 9#128) s).isSome = true := by
  decide +kernel

end Sys2Proof.Tests
end

section
/-! SUPPORT. What a command that passes its checks can write, said once (10_state.md rules R20 to R31): one constructor per
shape of effect. The statements about who writes which register are read off it. -/

namespace Sys2Proof.Laws

open Sys2Proof.Machine

/-- The writes a command's effect makes, from the state before to the state after, whatever the values written. -/
inductive Writes : Instr → State → State → Prop
  | nothing (s : State) : Writes .nop s s
  | error (s : State) (e : Bool) (c : ErrCode) (w : Word32) : Writes .clrerr s (writeError e c w s)
  | key (s : State) (k : Block) : Writes .ldkey s (writeKey k s)
  | lengths (s : State) (d m : Word64) : Writes .ldlen s (writeLengths d m s)
  | cipher {i : Instr} (s : State) (c : CipherState) (hi : i = .bcinit ∨ ∃ r, i = .bcperm r) : Writes i s (writeCipher c s)
  | mask {i : Instr} (s : State) (v : Word64) (hi : i ∈ [Instr.ldl, .mul2, .mul3]) : Writes i s (writeMask v s)
  | dout {i : Instr} (s : State) (d : Block) (hi : i ∈ [Instr.rderr, .rdlen, .rds, .rdw, .rdl, .fbg]) :
      Writes i s (writeDout d s)
  | start (s : State) (dir : Dir) (f : Fsm) (a m v : Word64) (x : Block) :
      Writes (.start dir) s
        (writeFsm f (writeMsgRem m (writeAdRem a (writeMask v (absorb x (writeAuth false false (writeDir dir s)))))))
  | ad (s : State) (f : Fsm) (a : Word64) (b : Block) (v : Word64) :
      Writes .ad s (writeFsm f (writeAdRem a (absorbMasked b v s)))
  | msg (s : State) (f : Fsm) (m : Word64) (b : Block) (v : Word64) (d : Block) :
      Writes .msg s (writeFsm f (writeMsgRem m (absorbMasked b v (writeDout d s))))
  | close {i : Instr} (s : State) (d : Block) (hi : i ∈ [Instr.abort, .tag]) :
      Writes i s (writeFsm .init (scrub (writeDout d s)))
  | verify (s : State) (d : Block) (ok : Bool) :
      Writes .verify s (writeFsm .init (scrub (writeDout d (writeAuth true ok s))))

/-- An effect that answers a next state makes the writes of its command and no others. -/
theorem effect_writes {i : Instr} {s t : State} (h : effect i s = .next t) : Writes i s t := by
  cases i
  case ad => obtain ⟨-, -, rfl⟩ | ⟨-, -, rfl⟩ := effect_ad_cases h <;> exact .ad ..
  case msg => obtain ⟨-, -, rfl⟩ | ⟨-, -, rfl⟩ := effect_msg_cases h <;> exact .msg ..
  all_goals cases h
  case nop => exact .nothing _
  case clrerr => exact .error ..
  case ldkey => exact .key ..
  case ldlen => exact .lengths ..
  case start => exact .start ..
  case verify => exact .verify ..
  case abort | tag => exact .close s _ (by simp)
  case bcinit | bcperm => exact .cipher s _ (by simp)
  case ldl | mul2 | mul3 => exact .mask s _ (by simp)
  all_goals exact .dout s _ (by simp)

/-- A command that answers a next state was rejected, or made the writes of its command. -/
theorem exec_writes {i : Instr} {s t : State} (h : exec i s = .next t) :
    (∃ c, failedCheck i s = some c ∧ t = reject c s) ∨ Writes i s t :=
  (exec_next_cases h).imp_right fun ⟨_, he⟩ => effect_writes he

end Sys2Proof.Laws
end

section
/-! CLAIMS. Who writes which register (10_state.md rules R20 to R31). -/

namespace Sys2Proof.Laws

open Sys2Proof.Machine

/-- Settles O52: a rejection writes no data register, and each shape of effect writes only registers its commands are listed for. -/
theorem dataRegisterWriters : Obligations.DataRegisterWriters := by
  intro i s t h
  obtain ⟨c, -, rfl⟩ | hw := exec_writes h
  · simp [reject_eq_writeError]
  · cases hw with
    | cipher _ _ hi => obtain rfl | ⟨r, rfl⟩ := hi <;> simp
    | mask _ _ hi => fin_cases hi <;> simp
    | dout _ _ hi => fin_cases hi <;> simp
    | close _ _ hi => fin_cases hi <;> simp
    | _ => simp

/-- Settles O53: a rejection writes the error record only, and only while ERR = 0; no effect but CLRERR's writes the record, and
none writes the handshake. -/
theorem controlRegisterWriters : Obligations.ControlRegisterWriters := by
  intro i s t h
  obtain ⟨c, hc, rfl⟩ | hw := exec_writes h
  · cases he : s.err with
    | true => simp [reject_of_err he, he]
    | false => simp [reject_of_no_err he, hc, writeError]
  · cases hw with
    | close _ _ hi => fin_cases hi <;> simp
    | _ => simp

end Sys2Proof.Laws
end

section
/-! CLAIMS. The STATUS word field by field (10_state.md rule R33). -/

namespace Sys2Proof.Laws

open Sys2Proof.Machine

/-- STATUS before its zero extension: the twelve bits of R33, ERR_CODE most significant. -/
def statusFields (s : State) : BitVec 12 :=
  errCodeBits s.errCode ++ BitVec.ofBool s.err ++ BitVec.ofBool s.authOk ++ BitVec.ofBool s.authDone ++ dirBit s.dir
    ++ fsmCode s.fsm ++ BitVec.ofBool s.busy

theorem status_eq_setWidth (s : State) : status s = (statusFields s).setWidth 32 := rfl

/-- A field of STATUS is the same field of the twelve bits. -/
theorem extract_status {a n : Nat} (h : a + n ≤ 32) (s : State) :
    (status s).extractLsb' a n = (statusFields s).extractLsb' a n :=
  BitVec.extractLsb'_setWidth_of_le h

theorem extract_status_fsm (s : State) : (status s).extractLsb' 1 3 = fsmCode s.fsm := by
  rw [extract_status (by decide), statusFields, extract_append_high _ _ _ _ (by decide),
    extract_append_low _ _ _ _ (by decide)]
  exact BitVec.extractLsb'_eq_self

theorem extract_status_dir (s : State) : (status s).extractLsb' 4 1 = dirBit s.dir := by
  rw [extract_status (by decide), statusFields, extract_append_high _ _ _ _ (by decide),
    extract_append_high _ _ _ _ (by decide), extract_append_low _ _ _ _ (by decide)]
  exact BitVec.extractLsb'_eq_self

theorem extract_status_errCode (s : State) : (status s).extractLsb' 8 4 = errCodeBits s.errCode := by
  rw [extract_status (by decide), statusFields]
  simp (disch := decide) only [extract_append_high]
  exact BitVec.extractLsb'_eq_self

theorem extract_status_unused (s : State) : (status s).extractLsb' 12 20 = 0#20 := by
  ext i hi
  simp [status_eq_setWidth]

/-- The four one-bit fields of STATUS: BUSY, AUTH_DONE, AUTH_OK and ERR. -/
theorem getLsbD_status (s : State) : (status s).getLsbD 0 = s.busy ∧ (status s).getLsbD 5 = s.authDone
    ∧ (status s).getLsbD 6 = s.authOk ∧ (status s).getLsbD 7 = s.err := by
  simp only [status_eq_setWidth, statusFields, BitVec.getLsbD_setWidth, BitVec.getLsbD_append, BitVec.getLsbD_ofBool]
  simp

/-- Settles O9: each field is read through the concatenation of R33. -/
theorem statusLayout : Obligations.StatusLayout := by
  refine ⟨rfl, fun s => ?_⟩
  obtain ⟨hBusy, hDone, hOk, hErr⟩ := getLsbD_status s
  exact ⟨hBusy, extract_status_fsm s, extract_status_dir s, hDone, hOk, hErr, extract_status_errCode s,
    extract_status_unused s⟩

end Sys2Proof.Laws
end

section
/-! SUPPORT. A command whose effect does not read din does the same with another operand (20_memory.md rule R53), and what of a
block pad and trunc read (43_cofb_fsm.md rules R151, R152). -/

namespace Sys2Proof.Laws

open Sys2Proof.Machine

/-- The same engine with another sampled operand. -/
def withDin (d : Block) (s : State) : State := { s with din := d }

/-- Running i with operand d differs from running it as it is in the held operand alone. -/
def DinUnread (i : Instr) (d : Block) (s : State) : Prop :=
  exec i (withDin d s) = Safety.mapNext (withDin d) (exec i s)

/-- A rejection does not read the operand. -/
theorem reject_withDin (c : ErrCode) (d : Block) (s : State) : reject c (withDin d s) = withDin d (reject c s) := by
  cases h : s.err with
  | true => rw [reject_of_err h, reject_of_err (s := withDin d s) h]
  | false =>
    rw [reject_of_no_err h, reject_of_no_err (s := withDin d s) h]
    rfl

/-- The checks and the rejection do not read the operand, so it is enough that the effect does not. -/
theorem dinUnread_of_effect {i : Instr} {d : Block} {s : State}
    (h : effect i (withDin d s) = Safety.mapNext (withDin d) (effect i s)) : DinUnread i d s := by
  have hCheck : failedCheck i (withDin d s) = failedCheck i s := failedCheck_congr i rfl rfl
  unfold DinUnread
  cases hs : failedCheck i s with
  | none => rw [exec_of_admitted hs, exec_of_admitted (hCheck.trans hs), h]
  | some c => rw [exec_of_rejected hs, exec_of_rejected (hCheck.trans hs), mapNext_next, reject_withDin]

/-- pad(B, r) reads only the bytes of B below r. -/
theorem pad_congr {a b : Block} {r : Nat} (h : ∀ k, k < r → byteOf a k = byteOf b k) : pad a r = pad b r :=
  joinBytes_congr fun i _ => ite_congr rfl (h i) fun _ => rfl

/-- trunc(B, r) reads only the bytes of B below r. -/
theorem trunc_congr {a b : Block} {r : Nat} (h : ∀ k, k < r → byteOf a k = byteOf b k) : trunc a r = trunc b r :=
  joinBytes_congr fun i _ => ite_congr rfl (h i) fun _ => rfl

/-- The bytes of trunc(B, r) from r on are zero. -/
theorem byteOf_trunc_of_le {b : Block} {r k : Nat} (hr : r ≤ k) (hk : k < 16) : byteOf (trunc b r) k = 0x00#8 := by
  rw [trunc, byteOf_joinBytes _ k hk, if_neg (Nat.not_lt.mpr hr)]

theorem effect_ad_of_adFinal {s : State} (h : s.fsm = .adFinal) : effect .ad s = runFinalAd s := by
  simp [effect, h]

theorem effect_msg_of_msgFinal {s : State} (h : s.fsm = .msgFinal) : effect .msg s = runFinalMsg s := by
  simp [effect, h]

end Sys2Proof.Laws
end

section
/-! CLAIMS. What of din each command ignores (20_memory.md rules R53, R57; 30_encoding.md rule R82). -/

namespace Sys2Proof.Laws

open Sys2Proof.Machine

/-- LDL reads the high half only. -/
theorem dinUnread_ldl {d : Block} {s : State} (h : highHalf d = highHalf s.din) : DinUnread .ldl d s := by
  have hMask : maskOperand (withDin d s) = maskOperand s := h
  apply dinUnread_of_effect
  rw [effect, hMask]
  rfl

/-- The final AD block reads its operand only through pad. -/
theorem absorbFinalAd_withDin {d : Block} {s : State} {r : Nat} (h : ∀ k, k < r → byteOf d k = byteOf s.din k) :
    absorbFinalAd r (withDin d s) = withDin d (absorbFinalAd r s) := by
  have hPad : paddedOperand r (withDin d s) = paddedOperand r s := pad_congr h
  rw [absorbFinalAd, hPad]
  rfl

/-- AD in AD_FINAL reads only the lanes below AD_REM. -/
theorem dinUnread_finalAd {d : Block} {s : State} (hf : s.fsm = .adFinal)
    (h : ∀ k, k < s.adRem.toNat → byteOf d k = byteOf s.din k) : DinUnread .ad d s := by
  have hRem : (withDin d s).adRem = s.adRem := rfl
  apply dinUnread_of_effect
  rw [effect_ad_of_adFinal hf, effect_ad_of_adFinal (s := withDin d s) hf, runFinalAd, runFinalAd, hRem,
    absorbFinalAd_withDin h]
  split <;> rfl

/-- In both directions the final message block is a function of the lanes below r: encryption pads din, decryption truncates
din ^ Yv. -/
theorem finalBlock_withDin {d : Block} {s : State} {r : Nat} (h : ∀ k, k < r → byteOf d k = byteOf s.din k) :
    finalPlaintext r (withDin d s) = finalPlaintext r s ∧ finalOutput r (withDin d s) = finalOutput r s := by
  have hPad : paddedOperand r (withDin d s) = paddedOperand r s := pad_congr h
  have hTrunc : trunc (blockOperand (withDin d s) ^^^ yValue s) r = trunc (blockOperand s ^^^ yValue s) r :=
    trunc_congr fun k hk => by rw [byteOf_xor, byteOf_xor]; exact congrArg (· ^^^ _) (h k hk)
  have hDir : (withDin d s).dir = s.dir := rfl
  have hY : yValue (withDin d s) = yValue s := rfl
  cases hd : s.dir <;> simp only [finalPlaintext, finalOutput, hDir, hd, hY, hPad, hTrunc, and_self]

/-- The final message block reads its operand only through its plaintext and its output. -/
theorem absorbFinalMsg_withDin {d : Block} {s : State} {r : Nat} (h : ∀ k, k < r → byteOf d k = byteOf s.din k) :
    absorbFinalMsg r (withDin d s) = withDin d (absorbFinalMsg r s) := by
  obtain ⟨hPlain, hOut⟩ := finalBlock_withDin h
  rw [absorbFinalMsg, hPlain, hOut]
  rfl

/-- MSG in MSG_FINAL reads only the lanes below MSG_REM. -/
theorem dinUnread_finalMsg {d : Block} {s : State} (hf : s.fsm = .msgFinal)
    (h : ∀ k, k < s.msgRem.toNat → byteOf d k = byteOf s.din k) : DinUnread .msg d s := by
  have hRem : (withDin d s).msgRem = s.msgRem := rfl
  apply dinUnread_of_effect
  rw [effect_msg_of_msgFinal hf, effect_msg_of_msgFinal (s := withDin d s) hf, runFinalMsg, runFinalMsg, hRem,
    absorbFinalMsg_withDin h]
  split <;> rfl

/-- What MSG in MSG_FINAL, which is never rejected, puts on DOUT. -/
theorem exec_finalMsg_dout {s t : State} (hf : s.fsm = .msgFinal) (h : exec .msg s = .next t) :
    t.dout = finalOutput s.msgRem.toNat s := by
  have hAdmitted : failedCheck .msg s = none := by
    simp [failedCheck_eq_none_iff, Instr.wellFormed, legalIn, dirAgrees, hf]
  rw [exec_of_admitted hAdmitted] at h
  obtain ⟨hInt, -, -⟩ | ⟨-, -, rfl⟩ := effect_msg_cases h
  · simp [hf] at hInt
  · rfl

/-- The lanes of a final output from r on are zero, in both directions. -/
theorem byteOf_finalOutput_of_le {s : State} {r k : Nat} (hr : r ≤ k) (hk : k < 16) :
    byteOf (finalOutput r s) k = 0x00#8 := by
  unfold finalOutput
  split <;> exact byteOf_trunc_of_le hr hk

/-- Settles O54: the commands with an ignored operand do not read it in their effect, LDL reads its high half, and a final block
reads the operand through pad and trunc, which stop at r. -/
theorem ignoredOperands : Obligations.IgnoredOperands := by
  intro s d
  refine ⟨fun i hi => dinUnread_of_effect ?_, fun r => dinUnread_of_effect rfl, dinUnread_ldl, dinUnread_finalAd,
    dinUnread_finalMsg, fun hf t ht k hr hk => ?_⟩
  · fin_cases hi <;> rfl
  · rw [exec_finalMsg_dout hf ht]
    exact byteOf_finalOutput_of_le hr hk

end Sys2Proof.Laws
end

section
/-! CLAIMS. What the output ports show (20_memory.md rules R51, R54; 70_reset_and_hazards.md rule R236). -/

namespace Sys2Proof.Laws

open Sys2Proof.Machine

/-- rst is 0 exactly when the host's next move is not a reset edge. -/
theorem rstIn_eq_false_iff (s : State) : rstIn s = false ↔ ∀ later, s.host ≠ .reset :: later := by
  unfold rstIn
  rcases s.host with _ | ⟨_ | _ | _, later⟩ <;> simp

/-- cmd_ready = ~BUSY & ~rst. -/
theorem cmdReady_eq_true_iff (s : State) : cmdReady s = true ↔ s.busy = false ∧ rstIn s = false := by
  simp [cmdReady]

/-- Settles O10: the two ports by the value of BUSY, and cmd_ready by the host's next move. -/
theorem outputPorts : Obligations.OutputPorts := by
  intro s
  refine ⟨fun hb => ?_, fun hb => ⟨?_, ?_, fun k hk => ?_⟩, by rw [cmdReady_eq_true_iff, rstIn_eq_false_iff]⟩
  · simp [doutPort, statusBit, hb]
  · simp [doutPort, hb]
  · simp [statusBit, hb]
  · simp [statusBit, hb, Nat.ne_of_gt hk]

end Sys2Proof.Laws
end

section
/-! SUPPORT. The opcode map row by row, and what the decoder rejects (30_encoding.md rules R71 to R77). -/

namespace Sys2Proof.Laws

/-- Every row of the opcode map selects the command that has the row's OPC value. -/
theorem opcode_of_mem_opcodeMap {row : OpcodeRow} (h : row ∈ opcodeMap) (rcnt : BitVec 6) (dirb : BitVec 1) :
    opcode (row.2 rcnt dirb) = row.1 := by
  unfold opcodeMap at h
  fin_cases h <;> rfl

/-- An OPC value selects a command that has it. -/
theorem opcode_of_lookupOpcode {opc : BitVec 8} {rcnt : BitVec 6} {dirb : BitVec 1} {i : Instr}
    (h : lookupOpcode opc rcnt dirb = some i) : opcode i = opc := by
  obtain ⟨row, hFind, rfl⟩ := Option.map_eq_some_iff.mp h
  rw [opcode_of_mem_opcodeMap (List.mem_of_find?_eq_some hFind)]
  simpa using List.find?_some hFind

/-- The rows of the opcode map leave exactly the gaps of R77. -/
theorem forall_row_ne_iff_unassigned (opc : BitVec 8) :
    (∀ row ∈ opcodeMap, row.1 ≠ opc) ↔ Safety.Unassigned opc.toNat := by
  have hBound := opc.isLt
  simp [opcodeMap, ← BitVec.toNat_inj]
  omega

/-- An OPC value selects no command exactly in the gaps of R77. -/
theorem lookupOpcode_eq_none_iff (opc : BitVec 8) (rcnt : BitVec 6) (dirb : BitVec 1) :
    lookupOpcode opc rcnt dirb = none ↔ Safety.Unassigned opc.toNat := by
  simp [← forall_row_ne_iff_unassigned, lookupOpcode]

/-- R72 by OPC value. -/
theorem rcntLegal_iff (i : Instr) (rcnt : BitVec 6) :
    rcntLegal i rcnt = true ↔ if opcode i = 0x11#8 then rcnt ≤ 40#6 else rcnt = 0#6 := by
  cases i <;> simp [rcntLegal, opcode]

/-- R73 by OPC value. -/
theorem dirLegal_iff (i : Instr) (dirb : BitVec 1) :
    dirLegal i dirb = true ↔ opcode i = 0x40#8 ∨ dirb = 0#1 := by
  cases i <;> simp [dirLegal, opcode]

/-- A word with an assigned OPC is a bad field when its other fields are not legal for that command
(60_exceptions.md R210, check 2). -/
theorem decode_eq_badField_iff (w : Word32) :
    decode w = .error .badField ↔ ∃ i, lookupOpcode (opcField w) (rcntField w) (dirField w) = some i
      ∧ ¬ (rsvField w = 0#17 ∧ rcntLegal i (rcntField w) = true ∧ dirLegal i (dirField w) = true) := by
  unfold decode
  cases lookupOpcode (opcField w) (rcntField w) (dirField w) with
  | none => simp
  | some i =>
    dsimp only
    split <;> simp_all

/-- A word that does not decode is rejected with the decoder's error. -/
theorem perform_of_decode_error {s : Machine.State} {c : ErrCode} (h : decode s.cmd = .error c) :
    Machine.perform s = .next (Safety.recorded c s) :=
  perform_of_failed ((checkCommand_eq_error_iff s c).mpr (.inl h))

end Sys2Proof.Laws
end

section
/-! CLAIMS. The words the decoder rejects (30_encoding.md rules R72 to R77). -/

namespace Sys2Proof.Laws

open Sys2Proof.Safety

/-- The words of R77, read at the decoder. -/
theorem decode_eq_illegal_iff_unassigned (w : Word32) :
    decode w = .error .illegalOpcode ↔ Unassigned (opcField w).toNat := by
  rw [decode_eq_illegal_iff, lookupOpcode_eq_none_iff]

/-- The words that break R72 to R74, by the fields of the word alone. -/
theorem decode_eq_badField_iff_fields (w : Word32) :
    decode w = .error .badField ↔
      ¬ Unassigned (opcField w).toNat
      ∧ (rsvField w ≠ 0#17
        ∨ (opcField w ≠ 0x11#8 ∧ rcntField w ≠ 0#6)
        ∨ (opcField w = 0x11#8 ∧ 40#6 < rcntField w)
        ∨ (opcField w ≠ 0x40#8 ∧ dirField w ≠ 0#1)) := by
  rw [decode_eq_badField_iff, ← lookupOpcode_eq_none_iff (opcField w) (rcntField w) (dirField w)]
  cases hLookup : lookupOpcode (opcField w) (rcntField w) (dirField w) with
  | none => simp
  | some i =>
    simp only [Option.some.injEq, exists_eq_left', rcntLegal_iff, dirLegal_iff, opcode_of_lookupOpcode hLookup]
    by_cases hPerm : opcField w = 0x11#8 <;> simp [hPerm, not_and_or, -not_and]

/-- Settles O3: the opcode map leaves exactly R77's gaps, an assigned OPC is a bad field by R72 to R74 read for the command that
has it, and a word that does not decode leaves the record only. -/
theorem illegalEncodings : Obligations.IllegalEncodings :=
  ⟨rfl, decode_eq_illegal_iff_unassigned, decode_eq_badField_iff_fields,
    fun s h => perform_of_decode_error ((decode_eq_illegal_iff_unassigned s.cmd).mpr h),
    fun _ h => perform_of_decode_error h⟩

end Sys2Proof.Laws
end

section
/-! SUPPORT. What a command that INIT admits does (60_exceptions.md rules R210, R220): its effect, in place or as an accepted
word; and a run of commands one command at a time (70_reset_and_hazards.md rule R241). -/

namespace Sys2Proof.Laws

open Sys2Proof.Machine

/-- No command of INIT has a direction to agree with: TAG and VERIFY belong to the TAG state. -/
theorem dirAgrees_of_legalIn_init {i : Instr} (h : legalIn i .init = true) (d : Dir) : dirAgrees i d = true := by
  cases i
  case tag | verify => cases h
  all_goals rfl

/-- In INIT a well-formed command that R220 allows there passes all checks. -/
theorem failedCheck_of_init {i : Instr} {s : State} (hf : s.fsm = .init) (hw : i.wellFormed = true)
    (hl : legalIn i .init = true) : failedCheck i s = none :=
  (failedCheck_eq_none_iff i s).mpr ⟨hw, hf ▸ hl, dirAgrees_of_legalIn_init hl s.dir⟩

theorem exec_of_init {i : Instr} {s : State} (hf : s.fsm = .init) (hw : i.wellFormed = true)
    (hl : legalIn i .init = true) : exec i s = effect i s :=
  exec_of_admitted (failedCheck_of_init hf hw hl)

/-- Accepting the word of an admitted command runs its effect on the sampled operand and retires it. -/
theorem command_of_init {i : Instr} {s : State} (d : Block) (hDecode : decode (encode i) = .ok i) (hf : s.fsm = .init)
    (hw : i.wellFormed = true) (hl : legalIn i .init = true) :
    command (encode i) d s = retired (effect i (sample (encode i) d s)) := by
  have hCheck : checkCommand (sample (encode i) d s) = .ok i :=
    (checkCommand_eq_ok_iff _ i).mpr ⟨hDecode, failedCheck_of_init hf hw hl⟩
  rw [command, complete, perform_of_checked hCheck]

/-- A run whose first command goes on. -/
theorem runCommands_cons_of_next {c : Word32} {d : Block} {later : List (Word32 × Block)} {s t u : State}
    {seen : List Observation} (h : command c d s = .next t) (hLater : runCommands later t = some (u, seen)) :
    runCommands ((c, d) :: later) s = some (u, (t.dout, status t) :: seen) := by
  simp [runCommands, h, hLater]

end Sys2Proof.Laws
end

section
/-! SUPPORT. The parts of a GIFT-128 round bit by bit, and the rounds one after another (40_gift128.md rules R101 to R111). -/

namespace Sys2Proof.Laws

open Sys2Proof.Machine

/-- The nibble of lane n: bit n of each of the four words, word 0 least significant (40_gift128.md R106). -/
def laneNibble (x : Words4) (n : Nat) : BitVec 4 :=
  BitVec.ofBool (x.w3.getLsbD n) ++ BitVec.ofBool (x.w2.getLsbD n) ++ BitVec.ofBool (x.w1.getLsbD n)
    ++ BitVec.ofBool (x.w0.getLsbD n)

/-- GIFT's S-box GS (R106). -/
def sBox (v : BitVec 4) : BitVec 4 :=
  [0x1#4, 0xA#4, 0x4#4, 0xC#4, 0x6#4, 0xF#4, 0x3#4, 0x9#4, 0x2#4, 0xD#4, 0xB#4, 0x7#4, 0x5#4, 0x0#4, 0x8#4, 0xE#4].getD
    v.toNat 0#4

/-- SubCells works lane by lane, so that GS is a statement about the sixteen values of one lane's bits. -/
theorem laneNibble_subCells (x : Words4) {n : Nat} (hn : n < 32) :
    laneNibble (subCells x) n = sBox (laneNibble x n) := by
  simp only [laneNibble, subCells, BitVec.getLsbD_xor, BitVec.getLsbD_and, BitVec.getLsbD_or, BitVec.getLsbD_not, hn,
    decide_true, Bool.true_and]
  generalize x.w0.getLsbD n = b0, x.w1.getLsbD n = b1, x.w2.getLsbD n = b2, x.w3.getLsbD n = b3
  decide +revert

/-- The contribution of source bit i to the word of PermBits: bit i alone, at its destination. -/
theorem getLsbD_movedBit (x : Word32) (i dest : Nat) {j : Nat} (hj : j < 32) :
    (((x >>> i) &&& 1#32) <<< dest).getLsbD j = (decide (dest = j) && x.getLsbD i) := by
  rcases Nat.lt_trichotomy j dest with h | rfl | h
  · simp [h, Nat.ne_of_gt h]
  · simp [hj]
  · have hPos : j - dest ≠ 0 := by omega
    simp [Nat.ne_of_lt h, BitVec.getLsbD_one, hPos]

/-- A bit that is no destination is left as it is. -/
theorem getLsbD_permWordFrom_of_notMem (x : Word32) {j : Nat} (hj : j < 32) :
    ∀ (table : List Nat) (i : Nat) (t : Word32), j ∉ table → (permWordFrom x i table t).getLsbD j = t.getLsbD j
  | [], _, _, _ => rfl
  | dest :: table, i, t, h => by
    obtain ⟨hHead, hTail⟩ := not_or.mp (List.mem_cons.not.mp h)
    rw [permWordFrom, getLsbD_permWordFrom_of_notMem x hj table _ _ hTail]
    simp [getLsbD_movedBit x i dest hj, Ne.symm hHead]

/-- When no two source bits share a destination, the destination of source bit i + k gets that bit. -/
theorem getLsbD_permWordFrom (x : Word32) {j : Nat} (hj : j < 32) :
    ∀ (table : List Nat) (i k : Nat) (t : Word32), table.Nodup → table[k]? = some j →
      (permWordFrom x i table t).getLsbD j = (t.getLsbD j || x.getLsbD (i + k))
  | dest :: table, i, 0, t, hNodup, hDest => by
    obtain rfl : dest = j := by simpa using hDest
    rw [permWordFrom, getLsbD_permWordFrom_of_notMem x hj table _ _ (List.nodup_cons.mp hNodup).1]
    simp [getLsbD_movedBit x i dest hj]
  | dest :: table, i, k + 1, t, hNodup, hDest => by
    obtain ⟨hHead, hTail⟩ := List.nodup_cons.mp hNodup
    have hRest : table[k]? = some j := by simpa using hDest
    have hNe : dest ≠ j := fun h => hHead (h ▸ List.mem_of_getElem? hRest)
    rw [permWordFrom, getLsbD_permWordFrom x hj table _ k _ hTail hRest]
    simp [getLsbD_movedBit x i dest hj, hNe, Nat.add_right_comm, Nat.add_assoc]

/-- PermBits reads a table source to destination (R102, R103, R107). -/
theorem getLsbD_permWord {table : List Nat} (hNodup : table.Nodup) {i j : Nat} (hDest : table[i]? = some j) (hj : j < 32)
    (x : Word32) : (permWord table x).getLsbD j = x.getLsbD i := by
  rw [permWord, getLsbD_permWordFrom x hj table 0 i 0#32 hNodup hDest]
  simp

/-- The tables PT are R102's closed form. -/
theorem permTable_getElem? : ∀ i, i < 32 →
    permTable0[i]? = some (i / 4 + 8 * ((4 - i % 4) % 4)) ∧ permTable1[i]? = some (i / 4 + 8 * ((5 - i % 4) % 4))
    ∧ permTable2[i]? = some (i / 4 + 8 * ((6 - i % 4) % 4)) ∧ permTable3[i]? = some (i / 4 + 8 * ((7 - i % 4) % 4)) := by
  decide

/-- Two key words as one cipher word are their concatenation (R108). -/
theorem pair16_eq_append (a b : Word16) : pair16 a b = a ++ b := by
  rw [BitVec.append_def, BitVec.shiftLeftZeroExtend_eq, BitVec.setWidth'_eq]
  rfl

/-- The constant of round r: the fixed 1 in bit 31, RC[r] in bits 0 to 5, and no other bit (R108). -/
theorem getLsbD_roundMask (r : Nat) {n : Nat} (hn : n < 32) :
    (0x80000000#32 ||| (roundConstant r).setWidth 32).getLsbD n = (decide (n = 31) || (roundConstant r).getLsbD n) := by
  have hTop : 0x80000000#32 = BitVec.twoPow 32 31 := by decide
  rw [hTop]
  simp [hn, eq_comm (a := n)]

/-- One step of the 6-bit affine shift register that generates RC (R101). -/
def nextConstant (c : BitVec 6) : BitVec 6 :=
  (c <<< 1) ||| ((c.extractLsb' 5 1 ^^^ c.extractLsb' 4 1 ^^^ 1#1).setWidth 6)

/-- Each entry of RC is one step of the register after the entry before it. -/
theorem roundConstant_succ : ∀ r, r < 39 → roundConstant (r + 1) = nextConstant (roundConstant r) := by decide

/-- RC[r] is the register after r + 1 steps from 0. -/
theorem roundConstant_eq_foldl (r : Nat) (hr : r < 40) :
    roundConstant r = (List.range (r + 1)).foldl (fun c _ => nextConstant c) 0#6 := by
  induction r with
  | zero => decide
  | succ r ih => rw [List.range_succ, List.foldl_concat, ← ih (by omega), roundConstant_succ r (by omega)]

/-- Rounds r to r + a + b - 1 are the first a of them, then the further b. -/
theorem roundsFrom_add (a b : Nat) : ∀ (r : Nat) (c : CipherState),
    roundsFrom r (a + b) c = roundsFrom (r + a) b (roundsFrom r a c) := by
  induction a with
  | zero => intro r c; rw [Nat.zero_add]; rfl
  | succ a ih =>
    intro r c
    rw [Nat.succ_add, roundsFrom, ih, roundsFrom, Nat.succ_add_eq_add_succ]

theorem permute_add (a b : Nat) (c : CipherState) : permute (a + b) c = roundsFrom a b (permute a c) := by
  rw [permute, roundsFrom_add, Nat.zero_add, permute]

theorem permute_succ (a : Nat) (c : CipherState) : permute (a + 1) c = round a (permute a c) := permute_add a 1 c

/-- permute<n> is rounds 0 to n - 1 in order (R111). -/
theorem permute_eq_foldl (n : Nat) (c : CipherState) :
    permute n c = (List.range n).foldl (fun c r => round r c) c := by
  induction n with
  | zero => rfl
  | succ n ih => rw [permute_succ, ih, List.range_succ, List.foldl_concat]

end Sys2Proof.Laws
end

section
/-! CLAIMS. GIFT-128 and the commands that expose it (40_gift128.md). -/

namespace Sys2Proof.Laws

open Sys2Proof.Machine

/-- Settles O25: INIT admits BCPERM up to 40 rounds, and permute<R> is the fold of the rounds. -/
theorem bcpermRunsRounds : Obligations.BcpermRunsRounds := by
  intro s rcnt hInit hCount
  have hWellFormed : (Instr.bcperm rcnt).wellFormed = true := decide_eq_true hCount
  rw [exec_of_init hInit hWellFormed rfl, effect, permute_eq_foldl]
  rfl

/-- Settles O26: a round by its definition, and rounds 0 to a + b - 1 as the first a, then the further b. -/
theorem permutePrefix : Obligations.PermutePrefix := fun a b _ c =>
  ⟨rfl, rfl, rfl, rfl, permute_succ a c, permute_add a b c, rfl, rfl⟩

/-- Settles O27: GS lane by lane. -/
theorem subCellsLanes : Obligations.SubCellsLanes := fun x _ hn => laneNibble_subCells x hn

/-- Settles O28: each of the four tables is the closed form and names no destination twice. -/
theorem permBitsDestination : Obligations.PermBitsDestination := by
  intro x i hi
  obtain ⟨h0, h1, h2, h3⟩ := permTable_getElem? i hi
  exact ⟨getLsbD_permWord (by decide) h0 (by omega) x.w0, getLsbD_permWord (by decide) h1 (by omega) x.w1,
    getLsbD_permWord (by decide) h2 (by omega) x.w2, getLsbD_permWord (by decide) h3 (by omega) x.w3⟩

/-- Settles O30: key words by concatenation, the constant bit by bit. -/
theorem addRoundKeyBits : Obligations.AddRoundKeyBits := by
  intro r w x
  have hBit : ∀ n, n < 32 →
      (addRoundKey r w x).w3.getLsbD n = (x.w3.getLsbD n ^^ (decide (n = 31) || (roundConstant r).getLsbD n)) :=
    fun n hn => by rw [addRoundKey, BitVec.getLsbD_xor, getLsbD_roundMask r hn]
  refine ⟨rfl, congrArg (x.w1 ^^^ ·) (pair16_eq_append w.k6 w.k7), congrArg (x.w2 ^^^ ·) (pair16_eq_append w.k2 w.k3), ?_, fun n hn => ?_, fun n hLow hHigh => ?_⟩
  · simp [hBit 31 (by decide), -BitVec.getLsbD_eq_getElem]
  · simp [hBit n (by omega), show n ≠ 31 by omega]
  · simp [hBit n (by omega), show n ≠ 31 by omega, BitVec.getLsbD_of_ge _ n hLow]

/-- Settles O24: INIT admits the four commands, and each effect is the write stated. -/
theorem cipherRegisterCommands : Obligations.CipherRegisterCommands := fun _ hInit =>
  ⟨exec_of_init hInit rfl rfl, exec_of_init hInit rfl rfl, exec_of_init hInit rfl rfl, exec_of_init hInit rfl rfl⟩

/-- Settles O29: by steps of the shift register. -/
theorem roundConstantsGenerated : Obligations.RoundConstantsGenerated := roundConstant_eq_foldl

/-- Settles O31: the low 96 bits of the new key state are the old W[0] to W[5], the high 96 bits of the old one. -/
theorem keyUpdateShifts : Obligations.KeyUpdateShifts := by
  intro w
  have hKept : (join16 w).extractLsb' 32 96 = w.k0 ++ w.k1 ++ w.k2 ++ w.k3 ++ w.k4 ++ w.k5 := by
    rw [join16, extract_append_high _ _ _ _ (by decide), extract_append_high _ _ _ _ (by decide)]
    exact BitVec.extractLsb'_eq_self
  have hTwo : w.k6.rotateRight 2 = (w.k6 >>> 2) ||| (w.k6 <<< 14) := rfl
  have hTwelve : w.k7.rotateRight 12 = (w.k7 >>> 12) ||| (w.k7 <<< 4) := rfl
  rw [hKept, ← hTwo, ← hTwelve, join16, keyUpdate]
  apply BitVec.eq_of_toNat_eq
  simp only [BitVec.toNat_append, Nat.shiftLeft_or_distrib, ← Nat.shiftLeft_add, Nat.or_assoc]

/-- Settles O32: BCINIT writes the words of KEY to W, and RDW joins them again. -/
theorem keyReadBack : Obligations.KeyReadBack := by
  intro s hInit
  have hLoad : exec .bcinit s = .next (writeCipher (initCipher (blockOperand s) s.key) s) := exec_of_init hInit rfl rfl
  exact ⟨_, _, hLoad, exec_of_init hInit rfl rfl, join16_split16 s.key⟩

/-- Settles O33: each of the four words decodes and is admitted, because the engine stays in INIT. -/
theorem block128ComputesCipher : Obligations.Block128ComputesCipher := by
  intro s k b hInit
  refine ⟨_, _,
    runCommands_cons_of_next (command_of_init (i := .ldkey) k (by decide) hInit rfl rfl) <|
    runCommands_cons_of_next (command_of_init (i := .bcinit) b (by decide) hInit rfl rfl) <|
    runCommands_cons_of_next (command_of_init (i := .bcperm 40#6) 0#128 (by decide) hInit rfl rfl) <|
    runCommands_cons_of_next (command_of_init (i := .rds) 0#128 (by decide) hInit rfl rfl) rfl, ?_⟩
  exact ⟨rfl, rfl, rfl, hInit, rfl⟩

end Sys2Proof.Laws
end

section
/-! SUPPORT. Multiplication by alpha by the top bit of its argument, and what linearity over XOR gives a map of words
(41_field_doubling.md rules R131 to R133). -/

namespace Sys2Proof.Laws

open Sys2Proof.Machine

/-- R131, when no bit is dropped by the shift. -/
theorem mulAlpha_of_top_clear {v : Word64} (h : v.getLsbD 63 = false) : mulAlpha v = v <<< 1 := by
  rw [mulAlpha, h]
  exact BitVec.xor_zero

/-- R131, when the shift drops a 1. -/
theorem mulAlpha_of_top_set {v : Word64} (h : v.getLsbD 63 = true) : mulAlpha v = (v <<< 1) ^^^ 0x1B#64 := by
  rw [mulAlpha, h]
  rfl

/-- A one-bit field, as the subtraction of R131 reads it. -/
theorem extract_one_bit {w : Nat} (x : BitVec w) (k : Nat) : x.extractLsb' k 1 = BitVec.ofBool (x.getLsbD k) := by
  ext i hi
  obtain rfl : i = 0 := by omega
  simp

/-- The reduction constant 1B is odd, so the dropped top bit comes back as bit 0. -/
theorem getLsbD_zero_mulAlpha (v : Word64) : (mulAlpha v).getLsbD 0 = v.getLsbD 63 := by
  cases h : v.getLsbD 63 with
  | false => simp [mulAlpha_of_top_clear h]
  | true => simp [mulAlpha_of_top_set h]

/-- A shift by one loses the top bit only. -/
theorem eq_zero_of_shiftLeft_one_eq_zero {v : Word64} (hTop : v.getLsbD 63 = false) (h : v <<< 1 = 0#64) : v = 0#64 := by
  apply BitVec.eq_of_getLsbD_eq
  intro i hi
  obtain rfl | hLow : i = 63 ∨ i + 1 < 64 := by omega
  · rw [hTop, BitVec.getLsbD_zero]
  · have hBit : (v <<< 1).getLsbD (i + 1) = (0#64).getLsbD (i + 1) := by rw [h]
    simpa [hLow, -BitVec.getLsbD_eq_getElem] using hBit

/-- XOR of a word with its own shift can be undone from bit 0 upwards: bit i + 1 of the result gives bit i + 1 of the word
once bit i is known. -/
theorem shiftLeft_one_xor_self_injective {w : Nat} : Function.Injective fun a : BitVec w => (a <<< 1) ^^^ a := by
  intro a b h
  apply BitVec.eq_of_getLsbD_eq
  intro i
  have hBit : ∀ j, ((a <<< 1) ^^^ a).getLsbD j = ((b <<< 1) ^^^ b).getLsbD j := fun j => congrArg (·.getLsbD j) h
  induction i with
  | zero => intro _; simpa using hBit 0
  | succ i ih => intro hi; simpa [hi, ih (by omega), -BitVec.getLsbD_eq_getElem] using hBit (i + 1)

theorem mulAlpha_xor (a b : Word64) : mulAlpha (a ^^^ b) = mulAlpha a ^^^ mulAlpha b := by
  simp only [mulAlpha, BitVec.shiftLeft_xor_distrib, BitVec.getLsbD_xor]
  have hCarry : ∀ p q : Bool,
      (if p ^^ q then 0x1B#64 else 0#64) = (if p then 0x1B#64 else 0#64) ^^^ (if q then 0x1B#64 else 0#64) := by decide
  rw [hCarry]
  ac_rfl

theorem mulAlphaPlus1_xor (a b : Word64) : mulAlphaPlus1 (a ^^^ b) = mulAlphaPlus1 a ^^^ mulAlphaPlus1 b := by
  simp only [mulAlphaPlus1, mulAlpha_xor]
  ac_rfl

theorem eq_zero_of_mulAlpha_eq_zero {v : Word64} (h : mulAlpha v = 0#64) : v = 0#64 := by
  have hTop : v.getLsbD 63 = false := by rw [← getLsbD_zero_mulAlpha, h, BitVec.getLsbD_zero]
  exact eq_zero_of_shiftLeft_one_eq_zero hTop (mulAlpha_of_top_clear hTop ▸ h)

/-- With bit 63 set the only candidate is 9, because 9 XOR 9 << 1 is 1B, and 9 has bit 63 clear. -/
theorem eq_zero_of_mulAlphaPlus1_eq_zero {v : Word64} (h : mulAlphaPlus1 v = 0#64) : v = 0#64 := by
  rw [mulAlphaPlus1] at h
  cases hTop : v.getLsbD 63 with
  | false =>
    rw [mulAlpha_of_top_clear hTop] at h
    exact shiftLeft_one_xor_self_injective h
  | true =>
    have hConstant : (v <<< 1) ^^^ v = 0x1B#64 :=
      BitVec.xor_eq_zero_iff.mp (by rw [← h, mulAlpha_of_top_set hTop]; ac_rfl)
    obtain rfl : v = 9#64 := shiftLeft_one_xor_self_injective hConstant
    cases hTop

/-- A map of words that is linear over XOR and sends only 0 to 0 is a bijection. -/
theorem bijective_of_xor {w : Nat} {f : BitVec w → BitVec w} (hXor : ∀ a b, f (a ^^^ b) = f a ^^^ f b)
    (hKernel : ∀ v, f v = 0#w → v = 0#w) : Function.Bijective f := by
  refine Function.Injective.bijective_of_finite fun a b h => ?_
  rw [← BitVec.xor_eq_zero_iff] at h ⊢
  exact hKernel _ ((hXor a b).trans h)

/-- The high half of a block as the two mask words. -/
theorem maskWords_highHalf (d : Block) : maskWords (highHalf d) = ⟨d.extractLsb' 96 32, d.extractLsb' 64 32⟩ := by
  have hJoined : highHalf d = maskValue ⟨d.extractLsb' 96 32, d.extractLsb' 64 32⟩ := (extract_adjacent d 64 32 32).symm
  rw [hJoined, maskWords_maskValue]

/-- The words of L after a write, joined again. -/
theorem lReg_append_writeMask (v : Word64) (s : State) : (writeMask v s).lReg.hi ++ (writeMask v s).lReg.lo = v :=
  maskValue_maskWords v

end Sys2Proof.Laws
end

section
/-! CLAIMS. Field doubling and the commands that expose it (41_field_doubling.md). -/

namespace Sys2Proof.Laws

open Sys2Proof.Machine

/-- Settles O36: both maps are linear and send only 0 to 0. -/
theorem doublingLaws : Obligations.DoublingLaws :=
  ⟨mulAlpha_xor, mulAlphaPlus1_xor, rfl, rfl,
    bijective_of_xor mulAlpha_xor fun _ => eq_zero_of_mulAlpha_eq_zero,
    bijective_of_xor mulAlphaPlus1_xor fun _ => eq_zero_of_mulAlphaPlus1_eq_zero⟩

/-- Settles O34: INIT admits the four commands, and the words of L hold the 64 bits written. -/
theorem maskCommands : Obligations.MaskCommands := by
  intro s hInit
  refine ⟨?_, exec_of_init hInit rfl rfl, ⟨_, exec_of_init hInit rfl rfl, rfl, lReg_append_writeMask _ s⟩,
    ⟨_, exec_of_init hInit rfl rfl, rfl, lReg_append_writeMask _ s⟩⟩
  rw [← maskWords_highHalf]
  exact exec_of_init hInit rfl rfl

/-- Settles O35: by the top bit, which makes the mask of the branch-free form all zeros or all ones. -/
theorem mulAlphaBranchFree : Obligations.MulAlphaBranchFree := by
  refine fun v => ⟨mulAlpha_of_top_set, mulAlpha_of_top_clear, ?_⟩
  rw [extract_one_bit]
  cases h : v.getLsbD 63 with
  | false => exact (mulAlpha_of_top_clear h).trans BitVec.xor_zero.symm
  | true => exact mulAlpha_of_top_set h

end Sys2Proof.Laws
end

section
/-! SUPPORT. The feedback map by fields and by bits (42_feedback.md rules R140, R141). -/

namespace Sys2Proof.Laws

open Sys2Proof.Machine

/-- A rotation left by one puts the top bit below the others. -/
theorem rotateLeft_one_eq_append (v : Word64) : v.rotateLeft 1 = v.extractLsb' 0 63 ++ v.extractLsb' 63 1 := by
  apply BitVec.eq_of_getLsbD_eq
  intro i hi
  refine Eq.trans ?_ BitVec.getLsbD_append.symm
  cases i with
  | zero => simp [BitVec.getLsbD_rotateLeft, -BitVec.getLsbD_eq_getElem]
  | succ i => simp [BitVec.getLsbD_rotateLeft, hi, show i < 63 by omega, -BitVec.getLsbD_eq_getElem]

/-- A field of a field is a field of the whole. -/
theorem extract_extract {w : Nat} (x : BitVec w) {a n b m : Nat} (h : b + m ≤ n) :
    (x.extractLsb' a n).extractLsb' b m = x.extractLsb' (a + b) m := by
  ext i hi
  have hInside : b + i < n := by omega
  simp [hInside, Nat.add_assoc]

/-- G as three fields of its argument: the low half, bits 126 to 64, then bit 127 (R140). -/
theorem feedback_eq_append (y : Block) :
    feedback y = y.extractLsb' 0 64 ++ (y.extractLsb' 64 63 ++ y.extractLsb' 127 1) := by
  rw [feedback, rotateLeft_one_eq_append, highHalf, extract_extract y (by decide), extract_extract y (by decide), lowHalf]

/-- The bit of Y that G moves to bit i. -/
def feedbackSource (i : Nat) : Nat := if i = 0 then 127 else if i < 64 then i + 63 else i - 64

theorem getLsbD_feedback (y : Block) {i : Nat} (hi : i < 128) :
    (feedback y).getLsbD i = y.getLsbD (feedbackSource i) := by
  rw [feedback_eq_append, feedbackSource]
  simp only [BitVec.getLsbD_append, BitVec.getLsbD_extractLsb']
  obtain rfl | hLow | hHigh : i = 0 ∨ (1 ≤ i ∧ i < 64) ∨ 64 ≤ i := by omega
  · rfl
  · have hIndex : 64 + (i - 1) = i + 63 := by omega
    simp [hLow, hIndex, show i ≠ 0 by omega, show i - 1 < 63 by omega]
  · simp [show ¬ i < 64 by omega, show i ≠ 0 by omega, show i - 64 < 64 by omega]

/-- G drops no bit. -/
theorem exists_feedbackSource_eq {j : Nat} (hj : j < 128) : ∃ i, i < 128 ∧ feedbackSource i = j := by
  obtain hLow | ⟨hHigh, hTop⟩ | rfl : j < 64 ∨ (64 ≤ j ∧ j < 127) ∨ j = 127 := by omega
  · exact ⟨j + 64, by omega, by simp [feedbackSource]⟩
  · exact ⟨j - 63, by omega, by simp [feedbackSource, show j - 63 ≠ 0 by omega, show j - 63 < 64 by omega]; omega⟩
  · exact ⟨0, by decide, rfl⟩

theorem feedback_xor (a b : Block) : feedback (a ^^^ b) = feedback a ^^^ feedback b := by
  apply BitVec.eq_of_getLsbD_eq
  intro i hi
  simp only [getLsbD_feedback _ hi, BitVec.getLsbD_xor]

theorem eq_zero_of_feedback_eq_zero {y : Block} (h : feedback y = 0#128) : y = 0#128 := by
  apply BitVec.eq_of_getLsbD_eq
  intro j hj
  obtain ⟨i, hi, rfl⟩ := exists_feedbackSource_eq hj
  rw [← getLsbD_feedback y hi, h, BitVec.getLsbD_zero, BitVec.getLsbD_zero]

end Sys2Proof.Laws
end

section
/-! CLAIMS. The feedback map and the command that exposes it (42_feedback.md). -/

namespace Sys2Proof.Laws

open Sys2Proof.Machine

/-- Settles O38: G moves every bit to a place of its own. -/
theorem feedbackLaws : Obligations.FeedbackLaws :=
  ⟨feedback_xor, bijective_of_xor feedback_xor fun _ => eq_zero_of_feedback_eq_zero, rfl, rfl,
    fun y => ⟨getLsbD_feedback y (i := 0) (by decide), getLsbD_feedback y (i := 127) (by decide)⟩⟩

/-- Settles O37: every state admits FBG, and its effect writes G of din to DOUT. -/
theorem feedbackCommand : Obligations.FeedbackCommand := by
  intro s
  rw [← feedback_eq_append]
  exact exec_of_admitted ((failedCheck_eq_none_iff .fbg s).mpr ⟨rfl, rfl, rfl⟩)

end Sys2Proof.Laws
end

section
/-! SUPPORT. When the session commands are admitted (60_exceptions.md rules R220, R221), and AD and MSG when the counter is in the
range that R170 gives it (43_cofb_fsm.md). -/

namespace Sys2Proof.Laws

open Sys2Proof.Machine

theorem failedCheck_start_eq_none_iff (dir : Dir) (s : State) : failedCheck (.start dir) s = none ↔ s.fsm = .init := by
  simp [failedCheck_eq_none_iff, Instr.wellFormed, legalIn, dirAgrees]

theorem failedCheck_ad_eq_none_iff (s : State) :
    failedCheck .ad s = none ↔ s.fsm = .adIntermediate ∨ s.fsm = .adFinal := by
  simp [failedCheck_eq_none_iff, Instr.wellFormed, legalIn, dirAgrees]

theorem failedCheck_msg_eq_none_iff (s : State) :
    failedCheck .msg s = none ↔ s.fsm = .msgIntermediate ∨ s.fsm = .msgFinal := by
  simp [failedCheck_eq_none_iff, Instr.wellFormed, legalIn, dirAgrees]

theorem failedCheck_tag_eq_none_iff (s : State) : failedCheck .tag s = none ↔ s.fsm = .tag ∧ s.dir = .encrypt := by
  simp [failedCheck_eq_none_iff, Instr.wellFormed, legalIn, dirAgrees]

theorem failedCheck_verify_eq_none_iff (s : State) :
    failedCheck .verify s = none ↔ s.fsm = .tag ∧ s.dir = .decrypt := by
  simp [failedCheck_eq_none_iff, Instr.wellFormed, legalIn, dirAgrees]

theorem effect_ad_of_adIntermediate {s : State} (hf : s.fsm = .adIntermediate) (hr : 16#64 ≤ s.adRem) :
    effect .ad s = .next (absorbAd s) := by
  rw [effect, if_pos hf, runAd, if_neg (BitVec.not_lt.mpr hr)]

theorem effect_ad_of_adFinal_le {s : State} (hf : s.fsm = .adFinal) (hr : s.adRem ≤ 16#64) :
    effect .ad s = .next (absorbFinalAd s.adRem.toNat s) := by
  rw [effect_ad_of_adFinal hf, runFinalAd, if_neg (BitVec.not_lt.mpr hr)]

theorem effect_msg_of_msgIntermediate {s : State} (hf : s.fsm = .msgIntermediate) (hr : 16#64 ≤ s.msgRem) :
    effect .msg s = .next (absorbMsg s) := by
  rw [effect, if_pos hf, runMsg, if_neg (BitVec.not_lt.mpr hr)]

theorem effect_msg_of_msgFinal_le {s : State} (hf : s.fsm = .msgFinal) (hr : s.msgRem ≤ 16#64) :
    effect .msg s = .next (absorbFinalMsg s.msgRem.toNat s) := by
  rw [effect_msg_of_msgFinal hf, runFinalMsg, if_neg (BitVec.not_lt.mpr hr)]

/-- A full final block by its counter. -/
theorem toNat_eq_sixteen_iff (v : Word64) : v.toNat = 16 ↔ v = 16#64 := by
  rw [← BitVec.toNat_inj]
  rfl

end Sys2Proof.Laws
end

section
/-! CLAIMS. The session commands one by one (43_cofb_fsm.md sections 2 and 3). -/

namespace Sys2Proof.Laws

open Sys2Proof.Machine

/-- Settles O40: INIT admits LDLEN and every state RDLEN, and each effect is the write stated. -/
theorem lengthCommands : Obligations.LengthCommands := fun s =>
  ⟨fun hInit => exec_of_init hInit rfl rfl, exec_of_admitted ((failedCheck_eq_none_iff .rdlen s).mpr ⟨rfl, rfl, rfl⟩)⟩

/-- Settles O41: L takes the high half of Y, which is its first two words. -/
theorem startOpensSession : Obligations.StartOpensSession := by
  intro s dir hInit
  rw [exec_of_init hInit rfl rfl, ← maskWords_highHalf_join32]
  rfl

/-- Settles O42: AD_INTERMEDIATE admits AD, and with a counter of at least 16 its effect is the write stated. -/
theorem intermediateAd : Obligations.IntermediateAd := fun s hf hr =>
  (exec_of_admitted ((failedCheck_ad_eq_none_iff s).mpr (.inl hf))).trans (effect_ad_of_adIntermediate hf hr)

/-- The mask schedule of R160 by its four cases. -/
theorem finalAdMask_eq (r m l : Word64) : finalAdMask r.toNat m l =
    if r = 16#64 then (if m = 0#64 then mulAlphaPlus1 (mulAlphaPlus1 (mulAlphaPlus1 l)) else mulAlphaPlus1 l)
    else (if m = 0#64 then mulAlphaPlus1 (mulAlphaPlus1 (mulAlphaPlus1 (mulAlphaPlus1 l)))
      else mulAlphaPlus1 (mulAlphaPlus1 l)) := by
  simp only [finalAdMask, finalBlockMask, toNat_eq_sixteen_iff]
  split <;> split <;> rfl

/-- Settles O43: AD_FINAL admits AD, and its mask is R160's schedule. -/
theorem finalAd : Obligations.FinalAd := by
  intro s hf hr
  rw [exec_of_admitted ((failedCheck_ad_eq_none_iff s).mpr (.inr hf)), effect_ad_of_adFinal_le hf hr]
  dsimp only
  rw [← finalAdMask_eq]
  rfl

/-- The plaintext of R162 by direction. -/
theorem fullPlaintext_eq (s : State) :
    fullPlaintext s = if s.dir = .encrypt then s.din else s.din ^^^ join32 s.yReg := by
  unfold fullPlaintext
  cases s.dir <;> rfl

/-- Settles O44: MSG_INTERMEDIATE admits MSG, and only the plaintext depends on the direction. -/
theorem intermediateMsg : Obligations.IntermediateMsg := by
  intro s hf hr
  rw [exec_of_admitted ((failedCheck_msg_eq_none_iff s).mpr (.inl hf)), effect_msg_of_msgIntermediate hf hr]
  dsimp only
  rw [← fullPlaintext_eq]
  rfl

/-- The padded plaintext of R163 by direction. -/
theorem finalPlaintext_eq (r : Nat) (s : State) : finalPlaintext r s =
    if s.dir = .encrypt then pad s.din r else pad (trunc (s.din ^^^ join32 s.yReg) r) r := by
  unfold finalPlaintext
  cases s.dir <;> rfl

/-- The output of R163 by direction. -/
theorem finalOutput_eq (r : Nat) (s : State) : finalOutput r s =
    if s.dir = .encrypt then trunc (pad s.din r ^^^ join32 s.yReg) r else trunc (s.din ^^^ join32 s.yReg) r := by
  unfold finalOutput
  cases s.dir <;> rfl

/-- Settles O45: MSG_FINAL admits MSG, and the plaintext and the output depend on the direction. -/
theorem finalMsg : Obligations.FinalMsg := by
  intro s hf hr
  rw [exec_of_admitted ((failedCheck_msg_eq_none_iff s).mpr (.inr hf)), effect_msg_of_msgFinal_le hf hr]
  dsimp only
  rw [← finalPlaintext_eq, ← finalOutput_eq]
  rfl

/-- Settles O47: the TAG state of an encryption session admits TAG, whose effect is the write stated. -/
theorem tagClosesSession : Obligations.TagClosesSession := fun s hf hd =>
  exec_of_admitted ((failedCheck_tag_eq_none_iff s).mpr ⟨hf, hd⟩)

end Sys2Proof.Laws
end

section
/-! SUPPORT. What a command that passes its checks keeps of the invariants between commands (43_cofb_fsm.md rule R170; 10_state.md
rules R30, R31), and that none stops where R170 holds. -/

namespace Sys2Proof.Laws

open Sys2Proof.Machine Sys2Proof.Safety

/-- R170 of the AD states reads AD_REM only. -/
theorem lengthsInv_of_adPhase {s : State} (hf : s.fsm = adPhase s.adRem) : LengthsInv s := by
  unfold adPhase at hf
  split at hf <;> simp_all [LengthsInv]

/-- After the last AD block, R170 of the states it can lead to. -/
theorem lengthsInv_of_afterAd {s : State} (hf : s.fsm = afterAd s.msgRem) (ha : s.adRem = 0#64) : LengthsInv s := by
  unfold afterAd msgPhase at hf
  split at hf
  · simp_all [LengthsInv]
  · split at hf
    · simp_all [LengthsInv]
    · have hPos : 1#64 ≤ s.msgRem := by bv_omega
      simp_all [LengthsInv]

/-- A nonzero MSG_REM goes on as after the last AD block. -/
theorem afterAd_of_ne_zero {m : Word64} (h : m ≠ 0#64) : afterAd m = msgPhase m := if_neg h

/-- R170 when both counters are 0 and no block is due. -/
theorem lengthsInv_of_closed {s : State} (hf : s.fsm = .init ∨ s.fsm = .tag) (ha : s.adRem = 0#64) (hm : s.msgRem = 0#64) :
    LengthsInv s := by
  rcases hf with hf | hf <;> simp [LengthsInv, hf, ha, hm]

/-- R170 reads FSM and the two counters only. -/
theorem LengthsInv.congr {s t : State} (h : LengthsInv s) (hf : t.fsm = s.fsm) (ha : t.adRem = s.adRem)
    (hm : t.msgRem = s.msgRem) : LengthsInv t := by
  unfold LengthsInv
  rw [hf, ha, hm]
  exact h

/-- Every effect keeps R170. -/
theorem effect_keeps_lengthsInv {i : Instr} {s t : State} (hAdmitted : failedCheck i s = none) (hs : LengthsInv s)
    (h : effect i s = .next t) : LengthsInv t := by
  have ⟨_, _, hMsg, hMsgInt, _, _⟩ := hs
  cases i
  case ad =>
    obtain ⟨-, -, rfl⟩ | ⟨-, -, rfl⟩ := effect_ad_cases h
    · exact lengthsInv_of_adPhase rfl
    · exact lengthsInv_of_afterAd rfl rfl
  case msg =>
    obtain ⟨hf, -, rfl⟩ | ⟨-, -, rfl⟩ := effect_msg_cases h
    · have hLong : 16#64 < s.msgRem := hMsgInt hf
      have hLeft : s.msgRem - 16#64 ≠ 0#64 := by bv_omega
      exact lengthsInv_of_afterAd (afterAd_of_ne_zero hLeft).symm (hMsg (.inl hf))
    · have hf := (failedCheck_msg_eq_none_iff s).mp hAdmitted
      exact lengthsInv_of_closed (.inr rfl) (hMsg (hf.imp_right .inl)) rfl
  all_goals cases h
  case start => exact lengthsInv_of_adPhase rfl
  case abort | tag | verify => exact lengthsInv_of_closed (.inl rfl) rfl rfl
  all_goals exact LengthsInv.congr hs rfl rfl rfl

/-- Every effect keeps the error record's invariant: only CLRERR writes the record, and it clears it. -/
theorem effect_keeps_errorInv {i : Instr} {s t : State} (hs : ErrorInv s) (h : effect i s = .next t) : ErrorInv t := by
  by_cases hi : i = .clrerr
  · subst hi
    cases h
    simp [ErrorInv]
  · cases effect_writes h
    case error => exact absurd rfl hi
    all_goals exact hs

/-- A rejection keeps it, because it records an error. -/
theorem reject_keeps_errorInv {c : ErrCode} {s : State} (hs : ErrorInv s) (hc : c ≠ .noError) : ErrorInv (reject c s) := by
  cases he : s.err with
  | true => rwa [reject_of_err he]
  | false => simp [reject_of_no_err he, ErrorInv, hc]

/-- Every effect keeps the result's invariant: VERIFY is admitted in a decryption session only, and closes it. -/
theorem effect_keeps_authInv {i : Instr} {s t : State} (hAdmitted : failedCheck i s = none) (hs : AuthInv s)
    (h : effect i s = .next t) : AuthInv t := by
  have ⟨hOk, hSession, hDir⟩ := hs
  cases effect_writes h
  case start => simp [AuthInv]
  case ad =>
    have hf := (failedCheck_ad_eq_none_iff s).mp hAdmitted
    exact ⟨hOk, fun _ => hSession (by rcases hf with hf | hf <;> simp [hf]), hDir⟩
  case msg =>
    have hf := (failedCheck_msg_eq_none_iff s).mp hAdmitted
    exact ⟨hOk, fun _ => hSession (by rcases hf with hf | hf <;> simp [hf]), hDir⟩
  case close => exact ⟨hOk, fun hf => absurd rfl hf, hDir⟩
  case verify =>
    obtain ⟨-, hDecrypt⟩ := (failedCheck_verify_eq_none_iff s).mp hAdmitted
    exact ⟨fun _ => rfl, fun hf => absurd rfl hf, fun _ => hDecrypt⟩
  all_goals exact hs

/-- No effect stops where R170 holds: AD and MSG find their counters in range. -/
theorem effect_goes_on {i : Instr} {s : State} (hAdmitted : failedCheck i s = none) (hs : LengthsInv s) :
    ∃ t, effect i s = .next t := by
  obtain ⟨hAdInt, hAdFinal, -, hMsgInt, hMsgFinal, -⟩ := hs
  cases i
  case ad =>
    rcases (failedCheck_ad_eq_none_iff s).mp hAdmitted with hf | hf
    · exact ⟨_, effect_ad_of_adIntermediate hf (BitVec.le_of_lt (hAdInt hf))⟩
    · exact ⟨_, effect_ad_of_adFinal_le hf (hAdFinal hf)⟩
  case msg =>
    rcases (failedCheck_msg_eq_none_iff s).mp hAdmitted with hf | hf
    · exact ⟨_, effect_msg_of_msgIntermediate hf (BitVec.le_of_lt (hMsgInt hf))⟩
    · exact ⟨_, effect_msg_of_msgFinal_le hf (hMsgFinal hf).2⟩
  all_goals exact ⟨_, rfl⟩

/-- A command word is rejected with an error that R211 names. -/
theorem checkCommand_error_ne_noError {s : State} {c : ErrCode} (h : checkCommand s = .error c) : c ≠ .noError := by
  rintro rfl
  obtain hDecode | ⟨i, -, hFailed⟩ := (checkCommand_eq_error_iff s _).mp h
  · rcases decode_error hDecode with h | h <;> cases h
  · simp [failedCheck_eq_some_iff] at hFailed

end Sys2Proof.Laws
end

section
/-! CLAIMS. The invariant of the machine and that it never stops (43_cofb_fsm.md rule R170). -/

namespace Sys2Proof.Laws

open Sys2Proof.Machine Sys2Proof.Safety

/-- The part of the invariant that speaks of registers: all of it but the handshake's. -/
def RegistersInv (s : State) : Prop := LengthsInv s ∧ ErrorInv s ∧ AuthInv s

/-- A sampled command is performed without a stop, and the registers' invariant holds of what it leaves. -/
theorem perform_registersInv {s : State} (hs : RegistersInv s) : ∃ t, perform s = .next t ∧ RegistersInv t := by
  have ⟨hLengths, hError, hAuth⟩ := hs
  cases hCheck : checkCommand s with
  | error c =>
    refine ⟨_, perform_of_failed hCheck, ?_, reject_keeps_errorInv hError (checkCommand_error_ne_noError hCheck), ?_⟩
    · rw [reject_eq_writeError]; exact hLengths
    · rw [reject_eq_writeError]; exact hAuth
  | ok i =>
    obtain ⟨-, hAdmitted⟩ := (checkCommand_eq_ok_iff s i).mp hCheck
    obtain ⟨t, ht⟩ := effect_goes_on hAdmitted hLengths
    exact ⟨t, (perform_of_checked hCheck).trans ht, effect_keeps_lengthsInv hAdmitted hLengths ht,
      effect_keeps_errorInv hError ht, effect_keeps_authInv hAdmitted hAuth ht⟩

/-- The handshake's part completes the invariant. -/
theorem RegistersInv.inv {s : State} : RegistersInv s → HandshakeInv s → Inv s
  | ⟨hLengths, hError, hAuth⟩, hHandshake => ⟨hLengths, hError, hAuth, hHandshake⟩

theorem complete_inv {s : State} (hs : RegistersInv s) : ∃ t, complete s = .next t ∧ Inv t := by
  obtain ⟨t, ht, hInv⟩ := perform_registersInv hs
  refine ⟨retire t, by rw [complete, ht, retired_next], RegistersInv.inv hInv ?_⟩
  simp [HandshakeInv]

theorem accept_inv {s : State} (c : Word32) (d : Block) (hs : RegistersInv s) : ∃ t, accept c d s = .next t ∧ Inv t := by
  have hSampled : RegistersInv (sample c d s) := hs
  by_cases hOne : latency (sample c d s) ≤ 1
  · rw [accept, if_pos hOne]
    exact complete_inv hSampled
  · refine ⟨_, if_neg hOne, RegistersInv.inv hs ⟨nofun, fun _ => ?_⟩⟩
    dsimp only
    omega

theorem proceed_inv {s : State} (hs : Inv s) : ∃ t, proceed s = .next t ∧ Inv t := by
  have ⟨hLengths, hError, hAuth, _⟩ := hs
  cases hb : s.busy with
  | false => exact ⟨s, proceed_ready hb, hs⟩
  | true =>
    by_cases hw : s.wait ≤ 1
    · rw [proceed_last hb hw]
      exact complete_inv ⟨hLengths, hError, hAuth⟩
    · refine ⟨_, proceed_waits hb (Nat.lt_of_not_le hw), hLengths, hError, hAuth, ?_, fun _ => ?_⟩
      · simp [hb]
      · dsimp only
        omega

/-- A reset edge leaves the registers of State.reset. -/
theorem resetEngine_inv (later : List HostMove) (s : State) : Inv (resetEngine later s) :=
  (by decide : Inv State.reset)

/-- Every edge from a state that meets the invariant goes on to one that does: it is a reset, accepts a command, or lets the
running one proceed. -/
theorem step_inv {s : State} (hs : Inv s) : ∃ t, step s = .next t ∧ Inv t := by
  have ⟨hLengths, hError, hAuth, _⟩ := hs
  have hRegisters : RegistersInv s := ⟨hLengths, hError, hAuth⟩
  unfold step clockEdge
  rcases s.host with _ | ⟨_ | _ | _, later⟩
  case nil => exact proceed_inv hs
  case cons.command c d =>
    dsimp only
    split
    · exact proceed_inv hs
    · exact accept_inv c d (s := { s with host := later }) hRegisters
  case cons.idle => exact proceed_inv (s := { s with host := later }) hs
  case cons.reset => exact ⟨_, rfl, resetEngine_inv later s⟩

/-- Settles O15: the state the edge answers is the one that meets the invariant. -/
theorem stepKeepsInv : Obligations.StepKeepsInv := by
  intro s t hs ht
  obtain ⟨u, hu, hInv⟩ := step_inv hs
  obtain rfl : u = t := Host.Outcome.next.inj (hu.symm.trans ht)
  exact hInv

/-- Settles O16: by the same step lemma. -/
theorem stepNeverStops : Obligations.StepNeverStops := fun _ hs =>
  (step_inv hs).imp fun _ => And.left

end Sys2Proof.Laws
end

section
/-! SUPPORT. Bytes of padded, truncated and filled blocks (43_cofb_fsm.md rules R151, R152; 20_memory.md rule R57). -/

namespace Sys2Proof.Laws

open Sys2Proof.Machine

theorem byteOf_pad (b : Block) (r : Nat) {i : Nat} (hi : i < 16) :
    byteOf (pad b r) i = if i < r then byteOf b i else if i = r then 0x80#8 else 0x00#8 :=
  byteOf_joinBytes _ i hi

theorem byteOf_trunc (b : Block) (r : Nat) {i : Nat} (hi : i < 16) :
    byteOf (trunc b r) i = if i < r then byteOf b i else 0x00#8 :=
  byteOf_joinBytes _ i hi

theorem byteOf_blockOfBytes (bytes : List Byte) (fill : Block) {i : Nat} (hi : i < 16) :
    byteOf (blockOfBytes bytes fill) i = bytes.getD i (byteOf fill i) :=
  byteOf_joinBytes _ i hi

theorem pad_sixteen (b : Block) : pad b 16 = b :=
  eq_of_byteOf_eq fun i hi => by rw [byteOf_pad b 16 hi, if_pos hi]

theorem trunc_sixteen (b : Block) : trunc b 16 = b :=
  eq_of_byteOf_eq fun i hi => by rw [byteOf_trunc b 16 hi, if_pos hi]

end Sys2Proof.Laws
end

section
/-! CLAIMS. Padding and truncation byte by byte, and the FSM after every command (43_cofb_fsm.md sections 1 and 4). -/

namespace Sys2Proof.Laws

open Sys2Proof.Machine

/-- Settles O39: a byte of a block joined from bytes is that byte. -/
theorem paddingBytes : Obligations.PaddingBytes := by
  refine fun b r i _ hi => ⟨byteOf_pad b r hi, byteOf_trunc b r hi, pad_sixteen b, trunc_sixteen b, rfl, fun bytes => ?_⟩
  refine (byteOf_blockOfBytes bytes b hi).trans ?_
  split <;> simp_all [byteOf]

/-- A command that answers a next state where its checks pass ran its effect. -/
theorem effect_of_exec {i : Instr} {s t : State} (h : exec i s = .next t) (hAdmitted : failedCheck i s = none) :
    effect i s = .next t :=
  (exec_of_admitted hAdmitted).symm.trans h

/-- A command that answers a next state where a check fails leaves the FSM. -/
theorem fsm_of_exec_rejected {i : Instr} {s t : State} (h : exec i s = .next t) (hRejected : failedCheck i s ≠ none) :
    t.fsm = s.fsm := by
  obtain ⟨c, hc⟩ := Option.ne_none_iff_exists'.mp hRejected
  obtain rfl := Host.Outcome.next.inj ((exec_of_rejected hc).symm.trans h)
  simp [reject_eq_writeError]

/-- A command that moves the FSM is one of R169's rows, in the row's state. -/
theorem fsm_moves {i : Instr} {s t : State} (h : exec i s = .next t) (hMoved : t.fsm ≠ s.fsm) :
    i = .abort ∨ (∃ dir, i = .start dir ∧ s.fsm = .init) ∨ (i = .ad ∧ (s.fsm = .adIntermediate ∨ s.fsm = .adFinal))
      ∨ (i = .msg ∧ (s.fsm = .msgIntermediate ∨ s.fsm = .msgFinal)) ∨ ((i = .tag ∨ i = .verify) ∧ s.fsm = .tag) := by
  have hAdmitted : failedCheck i s = none := not_imp_comm.mp (fsm_of_exec_rejected h) hMoved
  obtain ⟨hWriter, -⟩ := controlRegisterWriters i s t h
  simp only [List.mem_cons, List.not_mem_nil, or_false] at hWriter
  rcases hWriter hMoved with (rfl | rfl | rfl | rfl | rfl) | ⟨dir, rfl⟩
  case inl.inl => simpa using (failedCheck_ad_eq_none_iff s).mp hAdmitted
  case inl.inr.inl => simpa using (failedCheck_msg_eq_none_iff s).mp hAdmitted
  case inl.inr.inr.inl => simpa using ((failedCheck_tag_eq_none_iff s).mp hAdmitted).1
  case inl.inr.inr.inr.inl => simpa using ((failedCheck_verify_eq_none_iff s).mp hAdmitted).1
  case inl.inr.inr.inr.inr => exact .inl rfl
  case inr => simpa using (failedCheck_start_eq_none_iff dir s).mp hAdmitted

/-- The FSM after AD, in each of the two states that admit it. -/
theorem fsm_of_exec_ad {s t : State} (h : exec .ad s = .next t) :
    (s.fsm = .adIntermediate → t.fsm = adPhase (s.adRem - 16#64)) ∧ (s.fsm = .adFinal → t.fsm = afterAd s.msgRem) := by
  refine ⟨fun hf => ?_, fun hf => ?_⟩
  · have hEffect := effect_of_exec h ((failedCheck_ad_eq_none_iff s).mpr (.inl hf))
    obtain ⟨-, -, rfl⟩ | ⟨hNot, -⟩ := effect_ad_cases hEffect
    · rfl
    · exact absurd hf hNot
  · have hEffect := effect_of_exec h ((failedCheck_ad_eq_none_iff s).mpr (.inr hf))
    obtain ⟨hInt, -⟩ | ⟨-, -, rfl⟩ := effect_ad_cases hEffect
    · simp [hf] at hInt
    · rfl

/-- The FSM after MSG, in each of the two states that admit it. -/
theorem fsm_of_exec_msg {s t : State} (h : exec .msg s = .next t) :
    (s.fsm = .msgIntermediate → t.fsm = msgPhase (s.msgRem - 16#64)) ∧ (s.fsm = .msgFinal → t.fsm = .tag) := by
  refine ⟨fun hf => ?_, fun hf => ?_⟩
  · have hEffect := effect_of_exec h ((failedCheck_msg_eq_none_iff s).mpr (.inl hf))
    obtain ⟨-, -, rfl⟩ | ⟨hNot, -⟩ := effect_msg_cases hEffect
    · rfl
    · exact absurd hf hNot
  · have hEffect := effect_of_exec h ((failedCheck_msg_eq_none_iff s).mpr (.inr hf))
    obtain ⟨hInt, -⟩ | ⟨-, -, rfl⟩ := effect_msg_cases hEffect
    · simp [hf] at hInt
    · rfl

/-- Settles O51: each row of the table is read off the command's effect where it is admitted. -/
theorem fsmTransitions : Obligations.FsmTransitions := by
  intro i s t h
  split
  case h_1 dir hf =>
    cases effect_of_exec h ((failedCheck_start_eq_none_iff dir s).mpr hf)
    rfl
  case h_2 hf => exact (fsm_of_exec_ad h).1 hf
  case h_3 hf => exact (fsm_of_exec_ad h).2 hf
  case h_4 hf => exact (fsm_of_exec_msg h).1 hf
  case h_5 hf => exact (fsm_of_exec_msg h).2 hf
  case h_6 hf =>
    split
    case isTrue hd =>
      cases effect_of_exec h ((failedCheck_tag_eq_none_iff s).mpr ⟨hf, hd⟩)
      rfl
    case isFalse hd =>
      exact (fsm_of_exec_rejected h (by simp [failedCheck_tag_eq_none_iff, hd])).trans hf
  case h_7 hf =>
    split
    case isTrue hd =>
      cases effect_of_exec h ((failedCheck_verify_eq_none_iff s).mpr ⟨hf, hd⟩)
      rfl
    case isFalse hd =>
      exact (fsm_of_exec_rejected h (by simp [failedCheck_verify_eq_none_iff, hd])).trans hf
  case h_8 =>
    cases effect_of_exec h ((failedCheck_eq_none_iff .abort s).mpr ⟨rfl, rfl, rfl⟩)
    rfl
  case h_9 hAbort hStart hAdInt hAdFinal hMsgInt hMsgFinal hTag hVerify =>
    by_contra hMoved
    rcases fsm_moves h hMoved with hi | ⟨dir, hi, hf⟩ | ⟨hi, hf | hf⟩ | ⟨hi, hf | hf⟩ | ⟨hi | hi, hf⟩
    · exact hAbort hi
    · exact hStart dir hi hf
    · exact hAdInt hi hf
    · exact hAdFinal hi hf
    · exact hMsgInt hi hf
    · exact hMsgFinal hi hf
    · exact hTag hi hf
    · exact hVerify hi hf

end Sys2Proof.Laws
end

section
/-! SUPPORT. The block counts, the blocks of a buffer and the reference functions block by block (43_cofb_fsm.md rules R155, R166,
R167): what a buffer longer than 16 bytes does with its first block, and what a shorter one does. -/

namespace Sys2Proof.Laws

open Sys2Proof.Machine

/-- Induction on a buffer that takes 16 bytes off the front while more than 16 are left. -/
theorem block_induction {motive : List Byte → Prop} (short : ∀ a, a.length ≤ 16 → motive a)
    (long : ∀ a, 16 < a.length → motive (a.drop 16) → motive a) (a : List Byte) : motive a :=
  if h : a.length ≤ 16 then short a h
  else long a (Nat.lt_of_not_le h) (block_induction short long (a.drop 16))
termination_by a.length
decreasing_by simp only [List.length_drop]; omega

theorem adBlockCount_of_le {n : Nat} (h : n ≤ 16) : adBlockCount n = 1 := by
  unfold adBlockCount
  split <;> omega

theorem adBlockCount_of_gt {n : Nat} (h : 16 < n) : adBlockCount n - 1 = adBlockCount (n - 16) - 1 + 1 := by
  unfold adBlockCount
  split <;> split <;> omega

theorem msgBlockCount_of_le {n : Nat} (hPos : n ≠ 0) (h : n ≤ 16) : msgBlockCount n = 1 := by
  unfold msgBlockCount
  omega

theorem msgBlockCount_of_gt {n : Nat} (h : 16 < n) : msgBlockCount n - 1 = msgBlockCount (n - 16) - 1 + 1 := by
  unfold msgBlockCount
  omega

theorem adBlocks_of_le {a : List Byte} (h : a.length ≤ 16) : adBlocks a = [a] := by
  rw [adBlocks, adBlockCount_of_le h, blocksOf]

theorem adBlocks_of_gt {a : List Byte} (h : 16 < a.length) : adBlocks a = a.take 16 :: adBlocks (a.drop 16) := by
  rw [adBlocks, adBlockCount_of_gt h, blocksOf, adBlocks, List.length_drop]

theorem msgBlocks_of_le {m : List Byte} (hPos : m.length ≠ 0) (h : m.length ≤ 16) : msgBlocks m = [m] := by
  rw [msgBlocks, if_neg hPos, msgBlockCount_of_le hPos h, blocksOf]

theorem msgBlocks_of_gt {m : List Byte} (h : 16 < m.length) : msgBlocks m = m.take 16 :: msgBlocks (m.drop 16) := by
  have hRest : (m.drop 16).length ≠ 0 := by rw [List.length_drop]; omega
  rw [msgBlocks, if_neg (by omega), msgBlockCount_of_gt h, blocksOf, msgBlocks, if_neg hRest, List.length_drop]

/-- The final AD mask does not depend on the full blocks before the last. -/
theorem refAdMask_sub_sixteen {n : Nat} (h : 16 < n) (mlen : Nat) (l : Word64) :
    refAdMask (n - 16) mlen l = refAdMask n mlen l := by
  have hFull : (n - 16 > 0 ∧ (n - 16) % 16 = 0) ↔ (n > 0 ∧ n % 16 = 0) := by omega
  simp only [refAdMask, hFull]

theorem refAd_of_le {a : List Byte} (h : a.length ≤ 16) (key : Block) (mlen : Nat) (r : Running) :
    refAd key a mlen r
      = refAbsorb key (pad (blockOfBytes a 0#128) a.length) (refAdMask a.length mlen r.2) r.1 := by
  rw [refAd, adBlockCount_of_le h]
  rfl

theorem refAd_of_gt {a : List Byte} (h : 16 < a.length) (key : Block) (mlen : Nat) (r : Running) :
    refAd key a mlen r
      = refAd key (a.drop 16) mlen (refAbsorb key (blockOfBytes (a.take 16) 0#128) (mulAlpha r.2) r.1) := by
  have hLast : (a.drop 16).drop (16 * (adBlockCount (a.length - 16) - 1))
      = a.drop (16 * (adBlockCount (a.length - 16) - 1 + 1)) := by
    rw [List.drop_drop]; congr 1; omega
  simp only [refAd, adBlockCount_of_gt h, List.length_drop, hLast, refAdBlocks, refAdMask_sub_sixteen h]

/-- A computation that has already put out some bytes. -/
def afterOutput (out : List Byte) (r : List Byte × Running) : List Byte × Running := (out ++ r.1, r.2)

/-- The blocks before the last do not read the bytes put out so far. -/
theorem refMsgBlocks_afterOutput (dir : Dir) (key : Block) (out : List Byte) :
    ∀ (n : Nat) (m : List Byte) (r : List Byte × Running),
      refMsgBlocks dir key n m (afterOutput out r) = afterOutput out (refMsgBlocks dir key n m r)
  | 0, _, _ => rfl
  | n + 1, m, (done, y, l) => by
    simp only [refMsgBlocks, afterOutput, List.append_assoc]
    exact refMsgBlocks_afterOutput dir key out n (m.drop 16) (_, _)

/-- Nor does the last one. -/
theorem refFinalMsg_afterOutput (dir : Dir) (key : Block) (out last : List Byte) (r : List Byte × Running) :
    refFinalMsg dir key last (afterOutput out r) = afterOutput out (refFinalMsg dir key last r) := by
  simp only [refFinalMsg, afterOutput, List.append_assoc]

theorem refMsg_of_le {m : List Byte} (hPos : m.length ≠ 0) (h : m.length ≤ 16) (dir : Dir) (key : Block) (r : Running) :
    refMsg dir key m r = (firstBytes (blockOfBytes m 0#128 ^^^ r.1) m.length,
      refAbsorb key (pad (refPlain dir (blockOfBytes m 0#128) r.1) m.length) (finalBlockMask m.length r.2) r.1) := by
  rw [refMsg, if_neg hPos, msgBlockCount_of_le hPos h]
  rfl

theorem refMsg_of_gt {m : List Byte} (h : 16 < m.length) (dir : Dir) (key : Block) (r : Running) :
    refMsg dir key m r = afterOutput (firstBytes (blockOfBytes (m.take 16) 0#128 ^^^ r.1) 16)
      (refMsg dir key (m.drop 16)
        (refAbsorb key (refPlain dir (blockOfBytes (m.take 16) 0#128) r.1) (mulAlpha r.2) r.1)) := by
  have hRest : (m.drop 16).length ≠ 0 := by rw [List.length_drop]; omega
  have hLast : (m.drop 16).drop (16 * (msgBlockCount (m.length - 16) - 1))
      = m.drop (16 * (msgBlockCount (m.length - 16) - 1 + 1)) := by
    rw [List.drop_drop]; congr 1; omega
  rw [refMsg, if_neg (by omega), refMsg, if_neg hRest, msgBlockCount_of_gt h, List.length_drop, hLast,
    ← refFinalMsg_afterOutput, ← refMsgBlocks_afterOutput]
  simp only [refMsgBlocks, afterOutput, List.nil_append, List.append_nil]

end Sys2Proof.Laws
end

section
/-! SUPPORT. Reading back the bytes a block was filled with (20_memory.md rule R57). -/

namespace Sys2Proof.Laws

open Sys2Proof.Machine

theorem length_firstBytes (b : Block) (r : Nat) : (firstBytes b r).length = r := by simp [firstBytes]

theorem firstBytes_congr {a b : Block} {r : Nat} (h : ∀ k, k < r → byteOf a k = byteOf b k) :
    firstBytes a r = firstBytes b r :=
  List.map_congr_left fun k hk => h k (List.mem_range.mp hk)

/-- The lanes of a buffer's own bytes do not depend on the fill. -/
theorem byteOf_blockOfBytes_of_lt {bytes : List Byte} (hLength : bytes.length ≤ 16) (fill : Block) {k : Nat}
    (hk : k < bytes.length) : byteOf (blockOfBytes bytes fill) k = bytes[k] := by
  rw [byteOf_blockOfBytes bytes fill (by omega), List.getD_eq_getElem _ _ hk]

theorem firstBytes_blockOfBytes {bytes : List Byte} (hLength : bytes.length ≤ 16) (fill : Block) :
    firstBytes (blockOfBytes bytes fill) bytes.length = bytes := by
  refine List.ext_getElem (length_firstBytes _ _) fun k _ hk => ?_
  simp only [firstBytes, List.getElem_map, List.getElem_range]
  exact byteOf_blockOfBytes_of_lt hLength fill hk

theorem byteOf_blockOfBytes_firstBytes (b fill : Block) {r k : Nat} (hr : r ≤ 16) (hk : k < r) :
    byteOf (blockOfBytes (firstBytes b r) fill) k = byteOf b k := by
  rw [byteOf_blockOfBytes_of_lt (by rwa [length_firstBytes]) fill (by rwa [length_firstBytes])]
  simp [firstBytes]

/-- A buffer of 16 bytes leaves no lane to the fill. -/
theorem blockOfBytes_full {bytes : List Byte} (h : bytes.length = 16) (fill fill' : Block) :
    blockOfBytes bytes fill = blockOfBytes bytes fill' :=
  eq_of_byteOf_eq fun k hk => by
    rw [byteOf_blockOfBytes_of_lt (by omega) fill (by omega), byteOf_blockOfBytes_of_lt (by omega) fill' (by omega)]

theorem blockOfBytes_firstBytes_sixteen (b fill : Block) : blockOfBytes (firstBytes b 16) fill = b :=
  eq_of_byteOf_eq fun _ hk => byteOf_blockOfBytes_firstBytes b fill (Nat.le_refl 16) hk

end Sys2Proof.Laws
end

section
/-! CLAIMS. Decryption undoes encryption (43_cofb_fsm.md rules R166, R167). -/

namespace Sys2Proof.Laws

open Sys2Proof.Machine

/-- A block XORed with y twice, its bytes past r cut off in between, has its first r bytes back. -/
theorem byteOf_reopened (b y : Block) {r k : Nat} (hr : r ≤ 16) (hk : k < r) :
    byteOf (blockOfBytes (firstBytes (b ^^^ y) r) 0#128 ^^^ y) k = byteOf b k := by
  rw [byteOf_xor, byteOf_blockOfBytes_firstBytes _ _ hr hk, byteOf_xor, BitVec.xor_assoc, BitVec.xor_self, BitVec.xor_zero]

theorem refPlain_encrypt (b y : Block) : refPlain .encrypt b y = b := rfl

theorem refPlain_decrypt (b y : Block) : refPlain .decrypt b y = b ^^^ y := rfl

/-- Decryption recovers the plaintext of a full block from its output. -/
theorem refPlain_decrypt_xor (b y : Block) : refPlain .decrypt (b ^^^ y) y = b := by
  rw [refPlain_decrypt, BitVec.xor_assoc, BitVec.xor_self, BitVec.xor_zero]

/-- The message phase of a decryption run on an encryption's output gives the message and the same running pair: each block's
plaintext is recovered before it is absorbed. -/
theorem refMsg_decrypt_encrypt (key : Block) (m : List Byte) (r : Running) :
    (refMsg .encrypt key m r).1.length = m.length
    ∧ refMsg .decrypt key (refMsg .encrypt key m r).1 r = (m, (refMsg .encrypt key m r).2) := by
  induction m using block_induction generalizing r with
  | short m hShort =>
    obtain rfl | hNe := eq_or_ne m []
    · exact ⟨rfl, rfl⟩
    · have hPos : m.length ≠ 0 := by simpa using hNe
      have hOut : (firstBytes (blockOfBytes m 0#128 ^^^ r.1) m.length).length = m.length := length_firstBytes _ _
      have hBack : ∀ k, k < m.length → _ := fun k hk => byteOf_reopened (blockOfBytes m 0#128) r.1 hShort hk
      simp only [refMsg_of_le hPos hShort, refPlain_encrypt]
      refine ⟨hOut, ?_⟩
      rw [refMsg_of_le (by rwa [hOut]) (by rwa [hOut]), hOut, firstBytes_congr hBack, firstBytes_blockOfBytes hShort,
        refPlain_decrypt, pad_congr hBack]
  | long m hLong ih =>
    have hOut : (firstBytes (blockOfBytes (m.take 16) 0#128 ^^^ r.1) 16).length = 16 := length_firstBytes _ _
    have hTake : (m.take 16).length = 16 := by rw [List.length_take]; omega
    have hBlock : firstBytes (blockOfBytes (m.take 16) 0#128) 16 = m.take 16 := by
      simpa [hTake] using firstBytes_blockOfBytes hTake.le 0#128
    have hRestLength : 16 + (m.drop 16).length = m.length := by rw [List.length_drop]; omega
    obtain ⟨hLength, hRest⟩ := ih (refAbsorb key (blockOfBytes (m.take 16) 0#128) (mulAlpha r.2) r.1)
    simp only [refMsg_of_gt hLong, refPlain_encrypt, afterOutput]
    refine ⟨by rw [List.length_append, hOut, hLength, hRestLength], ?_⟩
    rw [refMsg_of_gt (by rw [List.length_append, hOut, hLength]; omega), List.take_left' hOut, List.drop_left' hOut,
      blockOfBytes_firstBytes_sixteen, refPlain_decrypt_xor, hRest, afterOutput, BitVec.xor_assoc, BitVec.xor_self,
      BitVec.xor_zero, hBlock, List.take_append_drop]

/-- ct_equal accepts equal tags. -/
theorem ctEqual_self (t : Block) : ctEqual t t = true := by
  simp [ctEqual, ctAccumulate]

/-- Settles O59: both directions have the same AD phase, because the ciphertext is as long as the message. -/
theorem decryptionInvertsEncryption : Obligations.DecryptionInvertsEncryption := by
  intro key nonce a m
  obtain ⟨hLength, hBack⟩ := refMsg_decrypt_encrypt key m (refAd key a m.length (refStart key nonce))
  refine ⟨?_, hLength⟩
  have hCofb : cofb .decrypt key nonce a (cofb .encrypt key nonce a m).1 = (m, (cofb .encrypt key nonce a m).2) := by
    simp only [cofb, hLength, hBack]
  rw [cofbDec, cofbEnc, hCofb, ctEqual_self]

end Sys2Proof.Laws
end

section
/-! SUPPORT. A run of commands in two parts, and a session's commands as accepted words: what each does to the running pair (Y, L)
and to the counters, whatever the ignored lanes hold (43_cofb_fsm.md rules R158 to R165; 70_reset_and_hazards.md rule R241). -/

namespace Sys2Proof.Laws

open Sys2Proof.Machine

/-- What a run of at least one command did. -/
theorem runCommands_cons_eq_some {c : Word32} {d : Block} {later : List (Word32 × Block)} {s u : State}
    {seen : List Observation} (h : runCommands ((c, d) :: later) s = some (u, seen)) :
    ∃ t rest, command c d s = .next t ∧ runCommands later t = some (u, rest) ∧ seen = (t.dout, status t) :: rest := by
  rw [runCommands] at h
  split at h
  case h_1 t ht =>
    split at h
    case h_1 v rest hRest =>
      cases h
      exact ⟨t, rest, ht, hRest, rfl⟩
    case h_2 => cases h
  all_goals cases h

theorem runCommands_append {xs ys : List (Word32 × Block)} {s t u : State} {seen later : List Observation}
    (hFirst : runCommands xs s = some (t, seen)) (hSecond : runCommands ys t = some (u, later)) :
    runCommands (xs ++ ys) s = some (u, seen ++ later) := by
  induction xs generalizing s seen with
  | nil => cases hFirst; exact hSecond
  | cons x xs ih =>
    obtain ⟨v, rest, hCommand, hRest, rfl⟩ := runCommands_cons_eq_some hFirst
    exact runCommands_cons_of_next hCommand (ih hRest)

/-- A run gives one observation per command. -/
theorem length_of_runCommands {xs : List (Word32 × Block)} {s t : State} {seen : List Observation}
    (h : runCommands xs s = some (t, seen)) : seen.length = xs.length := by
  induction xs generalizing s seen with
  | nil => cases h; rfl
  | cons x xs ih =>
    obtain ⟨v, rest, -, hRest, rfl⟩ := runCommands_cons_eq_some h
    rw [List.length_cons, ih hRest, List.length_cons]

/-- Accepting the word of an admitted command runs its effect on the sampled operand and retires it. -/
theorem command_of_admitted {i : Instr} {s t : State} (d : Block) (hDecode : decode (encode i) = .ok i)
    (hAdmitted : failedCheck i s = none) (hEffect : effect i (sample (encode i) d s) = .next t) :
    command (encode i) d s = .next (retire t) := by
  have hCheck : checkCommand (sample (encode i) d s) = .ok i :=
    (checkCommand_eq_ok_iff _ i).mpr ⟨hDecode, (failedCheck_congr i rfl rfl).trans hAdmitted⟩
  rw [command, complete, perform_of_checked hCheck, hEffect, retired_next]

/-- The running pair (Y, L) that a session's state holds. -/
def running (s : State) : Running := (yValue s, lValue s)

/-- Absorbing a block is the reference's step on the running pair. -/
theorem running_absorbMasked (b : Block) (v : Word64) (s : State) :
    running (absorbMasked b v s) = refAbsorb s.key b v (running s).1 :=
  Prod.ext rfl (maskValue_maskWords v)

/-- What every command of a session after START leaves: KEY, DIR and, as none is rejected, the error flag. -/
structure SameSession (s t : State) : Prop where
  key : t.key = s.key
  dir : t.dir = s.dir
  err : t.err = s.err

theorem SameSession.trans {s t u : State} (hst : SameSession s t) (htu : SameSession t u) : SameSession s u :=
  ⟨htu.key.trans hst.key, htu.dir.trans hst.dir, htu.err.trans hst.err⟩

/-- START as an accepted word (R158). -/
theorem command_start {s : State} (dir : Dir) (nonce : Block) (hInit : s.fsm = .init) :
    ∃ t, command (encode (.start dir)) nonce s = .next t ∧ t.fsm = adPhase t.adRem ∧ t.adRem = s.dlen ∧ t.msgRem = s.mlen
      ∧ t.key = s.key ∧ t.dir = dir ∧ t.err = s.err ∧ running t = refStart s.key nonce := by
  have hDecode : decode (encode (.start dir)) = .ok (.start dir) := by cases dir <;> decide
  refine ⟨_, command_of_admitted nonce hDecode ((failedCheck_start_eq_none_iff dir s).mpr hInit) rfl,
    rfl, rfl, rfl, rfl, rfl, rfl, Prod.ext rfl (maskValue_maskWords _)⟩

/-- AD of a block that is not the last, as an accepted word (R159). -/
theorem command_ad_of_gt {s : State} (d : Block) (hf : s.fsm = adPhase s.adRem) (hr : 16#64 < s.adRem) :
    ∃ t, command (encode .ad) d s = .next t ∧ SameSession s t ∧ t.fsm = adPhase t.adRem ∧ t.adRem = s.adRem - 16#64
      ∧ t.msgRem = s.msgRem ∧ running t = refAbsorb s.key d (mulAlpha (running s).2) (running s).1 := by
  have hInt : s.fsm = .adIntermediate := hf.trans (if_pos hr)
  exact ⟨_, command_of_admitted d (by decide) ((failedCheck_ad_eq_none_iff s).mpr (.inl hInt))
    (effect_ad_of_adIntermediate (s := sample (encode .ad) d s) hInt (BitVec.le_of_lt hr)),
    ⟨rfl, rfl, rfl⟩, rfl, rfl, rfl, running_absorbMasked _ _ (sample (encode .ad) d s)⟩

/-- AD of the last block, as an accepted word (R160, R161). -/
theorem command_ad_of_le {s : State} (d : Block) (hf : s.fsm = adPhase s.adRem) (hr : s.adRem ≤ 16#64) :
    ∃ t, command (encode .ad) d s = .next t ∧ SameSession s t ∧ t.fsm = afterAd t.msgRem ∧ t.msgRem = s.msgRem
      ∧ running t = refAbsorb s.key (pad d s.adRem.toNat) (finalAdMask s.adRem.toNat s.msgRem (running s).2)
        (running s).1 := by
  have hFinal : s.fsm = .adFinal := hf.trans (if_neg (BitVec.not_lt.mpr hr))
  exact ⟨_, command_of_admitted d (by decide) ((failedCheck_ad_eq_none_iff s).mpr (.inr hFinal))
    (effect_ad_of_adFinal_le (s := sample (encode .ad) d s) hFinal hr),
    ⟨rfl, rfl, rfl⟩, rfl, rfl, running_absorbMasked _ _ (sample (encode .ad) d s)⟩

/-- The plaintext of R162 is the reference's. -/
theorem fullPlaintext_eq_refPlain (s : State) : fullPlaintext s = refPlain s.dir s.din (yValue s) := by
  unfold fullPlaintext refPlain
  cases s.dir <;> rfl

/-- The padded plaintext of R163 is the reference's: pad reads no byte that trunc cut off. -/
theorem finalPlaintext_eq_refPlain {r : Nat} (hr : r ≤ 16) (s : State) :
    finalPlaintext r s = pad (refPlain s.dir s.din (yValue s)) r := by
  unfold finalPlaintext refPlain
  cases s.dir with
  | encrypt => rfl
  | decrypt => exact pad_congr fun k hk => by rw [byteOf_trunc _ _ (by omega), if_pos hk]; rfl

/-- The output bytes of R163 are those of din ^ Yv, in both directions. -/
theorem firstBytes_finalOutput {r : Nat} (hr : r ≤ 16) (s : State) :
    firstBytes (finalOutput r s) r = firstBytes (s.din ^^^ yValue s) r := by
  refine firstBytes_congr fun k hk => ?_
  unfold finalOutput
  cases s.dir with
  | encrypt =>
    rw [byteOf_trunc _ _ (by omega), if_pos hk, byteOf_xor, byteOf_xor, paddedOperand, byteOf_pad _ _ (by omega), if_pos hk]
  | decrypt =>
    rw [byteOf_trunc _ _ (by omega), if_pos hk, blockOperand]

/-- MSG of a block that is not the last, as an accepted word (R162). -/
theorem command_msg_of_gt {s : State} (d : Block) (hf : s.fsm = afterAd s.msgRem) (hr : 16#64 < s.msgRem) :
    ∃ t, command (encode .msg) d s = .next t ∧ SameSession s t ∧ t.fsm = afterAd t.msgRem ∧ t.msgRem = s.msgRem - 16#64
      ∧ t.dout = d ^^^ (running s).1
      ∧ running t = refAbsorb s.key (refPlain s.dir d (running s).1) (mulAlpha (running s).2) (running s).1 := by
  have hPos : s.msgRem ≠ 0#64 := by bv_omega
  have hLeft : s.msgRem - 16#64 ≠ 0#64 := by bv_omega
  have hInt : s.fsm = .msgIntermediate := by rw [hf, afterAd_of_ne_zero hPos, msgPhase, if_pos hr]
  refine ⟨_, command_of_admitted d (by decide) ((failedCheck_msg_eq_none_iff s).mpr (.inl hInt))
    (effect_msg_of_msgIntermediate (s := sample (encode .msg) d s) hInt (BitVec.le_of_lt hr)),
    ⟨rfl, rfl, rfl⟩, (afterAd_of_ne_zero hLeft).symm, rfl, rfl, ?_⟩
  refine (running_absorbMasked _ _ (writeDout (d ^^^ yValue s) (sample (encode .msg) d s))).trans ?_
  rw [fullPlaintext_eq_refPlain]
  rfl

/-- MSG of the last block, as an accepted word (R163). -/
theorem command_msg_of_le {s : State} (d : Block) (hf : s.fsm = afterAd s.msgRem) (hPos : s.msgRem ≠ 0#64)
    (hr : s.msgRem ≤ 16#64) :
    ∃ t, command (encode .msg) d s = .next t ∧ SameSession s t ∧ t.fsm = .tag
      ∧ firstBytes t.dout s.msgRem.toNat = firstBytes (d ^^^ (running s).1) s.msgRem.toNat
      ∧ running t = refAbsorb s.key (pad (refPlain s.dir d (running s).1) s.msgRem.toNat)
        (finalBlockMask s.msgRem.toNat (running s).2) (running s).1 := by
  have hFinal : s.fsm = .msgFinal := by
    rw [hf, afterAd_of_ne_zero hPos, msgPhase, if_neg (BitVec.not_lt.mpr hr)]
  have hCount : s.msgRem.toNat ≤ 16 := hr
  refine ⟨_, command_of_admitted d (by decide) ((failedCheck_msg_eq_none_iff s).mpr (.inr hFinal))
    (effect_msg_of_msgFinal_le (s := sample (encode .msg) d s) hFinal hr),
    ⟨rfl, rfl, rfl⟩, rfl, firstBytes_finalOutput hCount (sample (encode .msg) d s), ?_⟩
  refine (running_absorbMasked _ _ (writeDout _ (sample (encode .msg) d s))).trans ?_
  rw [sample_msgRem, finalPlaintext_eq_refPlain hCount]
  rfl

end Sys2Proof.Laws
end

section
/-! CLAIMS. A session of commands computes COFB, in both directions and for every length (43_cofb_fsm.md rule R168). -/

namespace Sys2Proof.Laws

open Sys2Proof.Machine

/-- The words of a command with one block of a buffer each, the lanes past its end holding fill. -/
def blockCommands (i : Instr) (fill : Block) (blocks : List (List Byte)) : List (Word32 × Block) :=
  blocks.map fun b => (encode i, blockOfBytes b fill)

/-- The two spellings of the final AD mask (R160, R166). -/
theorem finalAdMask_eq_refAdMask {n : Nat} (h : n ≤ 16) (msgRem l : Word64) :
    finalAdMask n msgRem l = refAdMask n msgRem.toNat l := by
  have hFull : (n > 0 ∧ n % 16 = 0) ↔ n = 16 := by omega
  have hEmpty : msgRem.toNat = 0 ↔ msgRem = 0#64 := by rw [← BitVec.toNat_inj]; rfl
  simp only [finalAdMask, finalBlockMask, refAdMask, hFull, hEmpty]

/-- The fill does not reach what pad keeps of a buffer. -/
theorem pad_blockOfBytes {bytes : List Byte} (h : bytes.length ≤ 16) (fill fill' : Block) :
    pad (blockOfBytes bytes fill) bytes.length = pad (blockOfBytes bytes fill') bytes.length :=
  pad_congr fun _ hk => by rw [byteOf_blockOfBytes_of_lt h fill hk, byteOf_blockOfBytes_of_lt h fill' hk]

/-- The AD commands of a session are the reference's AD phase, by induction on the blocks. -/
theorem runCommands_ad (fill : Block) (a : List Byte) {s : State} (hf : s.fsm = adPhase s.adRem)
    (hLength : s.adRem.toNat = a.length) :
    ∃ t seen, runCommands (blockCommands .ad fill (adBlocks a)) s = some (t, seen) ∧ SameSession s t
      ∧ t.fsm = afterAd t.msgRem ∧ t.msgRem = s.msgRem ∧ running t = refAd s.key a s.msgRem.toNat (running s) := by
  induction a using block_induction generalizing s with
  | short a hShort =>
    have hRem : s.adRem ≤ 16#64 := by rw [BitVec.le_def, hLength]; exact hShort
    obtain ⟨t, ht, hSame, hFsm, hMsgRem, hRunning⟩ := command_ad_of_le (blockOfBytes a fill) hf hRem
    rw [adBlocks_of_le hShort]
    refine ⟨t, _, runCommands_cons_of_next ht rfl, hSame, hFsm, hMsgRem, hRunning.trans ?_⟩
    rw [refAd_of_le hShort, hLength, finalAdMask_eq_refAdMask hShort, pad_blockOfBytes hShort fill 0#128]
  | long a hLong ih =>
    have hRem : 16#64 < s.adRem := by rw [BitVec.lt_def, hLength]; exact hLong
    have hTake : (a.take 16).length = 16 := by rw [List.length_take]; omega
    obtain ⟨t, ht, hSame, hFsm, hAdRem, hMsgRem, hRunning⟩ := command_ad_of_gt (blockOfBytes (a.take 16) fill) hf hRem
    have hLeft : t.adRem.toNat = (a.drop 16).length := by
      rw [hAdRem, List.length_drop, ← hLength]
      bv_omega
    obtain ⟨u, seen, hRun, hSameLater, hFsmLater, hMsgRemLater, hRunningLater⟩ := ih hFsm hLeft
    rw [adBlocks_of_gt hLong]
    refine ⟨u, _, runCommands_cons_of_next ht hRun, hSame.trans hSameLater, hFsmLater, hMsgRemLater.trans hMsgRem, ?_⟩
    rw [hRunningLater, hRunning, hSame.key, hMsgRem, refAd_of_gt hLong, blockOfBytes_full hTake fill 0#128]

/-- The output bytes of a block do not depend on the fill. -/
theorem firstBytes_blockOfBytes_xor {bytes : List Byte} (h : bytes.length ≤ 16) (fill fill' y : Block) :
    firstBytes (blockOfBytes bytes fill ^^^ y) bytes.length = firstBytes (blockOfBytes bytes fill' ^^^ y) bytes.length :=
  firstBytes_congr fun _ hk => by
    rw [byteOf_xor, byteOf_xor, byteOf_blockOfBytes_of_lt h fill hk, byteOf_blockOfBytes_of_lt h fill' hk]

/-- Nor does the padded plaintext. -/
theorem pad_refPlain_blockOfBytes {bytes : List Byte} (h : bytes.length ≤ 16) (dir : Dir) (fill fill' y : Block) :
    pad (refPlain dir (blockOfBytes bytes fill) y) bytes.length
      = pad (refPlain dir (blockOfBytes bytes fill') y) bytes.length := by
  cases dir with
  | encrypt => exact pad_blockOfBytes h fill fill'
  | decrypt =>
    exact pad_congr fun _ hk => by
      rw [refPlain_decrypt, refPlain_decrypt, byteOf_xor, byteOf_xor, byteOf_blockOfBytes_of_lt h fill hk,
        byteOf_blockOfBytes_of_lt h fill' hk]

theorem collectOutput_singleton (b : List Byte) (o : Observation) : collectOutput [b] [o] = firstBytes o.1 b.length :=
  List.append_nil _

/-- The MSG commands of a session are the reference's message phase, outputs included, by induction on the blocks. -/
theorem runCommands_msg (fill : Block) (m : List Byte) {s : State} (hf : s.fsm = afterAd s.msgRem)
    (hLength : s.msgRem.toNat = m.length) :
    ∃ t seen, runCommands (blockCommands .msg fill (msgBlocks m)) s = some (t, seen) ∧ SameSession s t ∧ t.fsm = .tag
      ∧ refMsg s.dir s.key m (running s) = (collectOutput (msgBlocks m) seen, running t) := by
  induction m using block_induction generalizing s with
  | short m hShort =>
    obtain rfl | hNe := eq_or_ne m []
    · have hRem : s.msgRem = 0#64 := BitVec.eq_of_toNat_eq hLength
      exact ⟨s, [], rfl, ⟨rfl, rfl, rfl⟩, hf.trans (if_pos hRem), rfl⟩
    · have hPos : m.length ≠ 0 := by simpa using hNe
      have hRemPos : s.msgRem ≠ 0#64 := by rintro hZero; rw [hZero] at hLength; exact hPos hLength.symm
      have hRem : s.msgRem ≤ 16#64 := by rw [BitVec.le_def, hLength]; exact hShort
      obtain ⟨t, ht, hSame, hFsm, hDout, hRunning⟩ := command_msg_of_le (blockOfBytes m fill) hf hRemPos hRem
      rw [hLength] at hDout hRunning
      rw [msgBlocks_of_le hPos hShort]
      refine ⟨t, _, runCommands_cons_of_next ht rfl, hSame, hFsm, ?_⟩
      rw [refMsg_of_le hPos hShort, hRunning, collectOutput_singleton, hDout, firstBytes_blockOfBytes_xor hShort fill 0#128,
        pad_refPlain_blockOfBytes hShort _ fill 0#128]
  | long m hLong ih =>
    have hRem : 16#64 < s.msgRem := by rw [BitVec.lt_def, hLength]; exact hLong
    have hTake : (m.take 16).length = 16 := by rw [List.length_take]; omega
    obtain ⟨t, ht, hSame, hFsm, hMsgRem, hDout, hRunning⟩ := command_msg_of_gt (blockOfBytes (m.take 16) fill) hf hRem
    have hLeft : t.msgRem.toNat = (m.drop 16).length := by
      rw [hMsgRem, List.length_drop, ← hLength]
      bv_omega
    obtain ⟨u, seen, hRun, hSameLater, hFsmLater, hOut⟩ := ih hFsm hLeft
    rw [hSame.dir, hSame.key, hRunning, blockOfBytes_full hTake fill 0#128] at hOut
    rw [msgBlocks_of_gt hLong]
    refine ⟨u, _, runCommands_cons_of_next ht hRun, hSame.trans hSameLater, hFsmLater, ?_⟩
    rw [refMsg_of_gt hLong, hOut, afterOutput, collectOutput, hDout, hTake, blockOfBytes_full hTake fill 0#128]

/-- A session up to its TAG state, in either direction: the outputs are those of COFB, and Y holds its final value. -/
theorem runCommands_session {s : State} (dir : Dir) (nonce fill : Block) (a m : List Byte) (hInit : s.fsm = .init)
    (hAdFits : a.length < 2 ^ 64) (hMsgFits : m.length < 2 ^ 64) (hDlen : s.dlen = BitVec.ofNat 64 a.length)
    (hMlen : s.mlen = BitVec.ofNat 64 m.length) :
    ∃ t seen, runCommands (sessionCommands dir nonce a m fill) s = some (t, seen)
      ∧ t.fsm = .tag ∧ t.dir = dir ∧ t.err = s.err
      ∧ cofb dir s.key nonce a m = (collectOutput (msgBlocks m) (seen.drop (1 + (adBlocks a).length)), yValue t) := by
  obtain ⟨t₀, hStart, hFsm₀, hAdRem, hMsgRem₀, hKey₀, hDir₀, hErr₀, hRunning₀⟩ := command_start dir nonce hInit
  have hAdLength : t₀.adRem.toNat = a.length := by rw [hAdRem, hDlen, BitVec.toNat_ofNat, Nat.mod_eq_of_lt hAdFits]
  obtain ⟨t₁, seenAd, hAd, hSame₁, hFsm₁, hMsgRem₁, hRunning₁⟩ := runCommands_ad fill a hFsm₀ hAdLength
  have hMsgLength : t₁.msgRem.toNat = m.length := by
    rw [hMsgRem₁, hMsgRem₀, hMlen, BitVec.toNat_ofNat, Nat.mod_eq_of_lt hMsgFits]
  obtain ⟨t, seenMsg, hMsg, hSame, hFsm, hOut⟩ := runCommands_msg fill m hFsm₁ hMsgLength
  have hAdSeen : seenAd.length = (adBlocks a).length := (length_of_runCommands hAd).trans (List.length_map _)
  refine ⟨t, _, runCommands_append (runCommands_cons_of_next hStart hAd) hMsg, hFsm,
    hSame.dir.trans (hSame₁.dir.trans hDir₀), hSame.err.trans (hSame₁.err.trans hErr₀), ?_⟩
  rw [hSame₁.dir, hSame₁.key, hDir₀, hKey₀, hRunning₁, hKey₀, hRunning₀, ← hMsgRem₁, hMsgLength] at hOut
  rw [List.drop_left' (by rw [List.length_cons, hAdSeen, Nat.add_comm])]
  simp only [cofb, hOut, running]

/-- Settles O57: the session leads to the TAG state with COFB_ENC's tag in Y, and TAG shows it. -/
theorem sessionEncrypts : Obligations.SessionEncrypts := by
  intro s nonce fill a m hInit hAdFits hMsgFits hDlen hMlen
  obtain ⟨t, seen, hRun, hFsm, hDir, hErr, hCofb⟩ :=
    runCommands_session .encrypt nonce fill a m hInit hAdFits hMsgFits hDlen hMlen
  refine ⟨t, seen, _, hRun, hFsm, ?_,
    command_of_admitted fill (by decide) ((failedCheck_tag_eq_none_iff t).mpr ⟨hFsm, hDir⟩) rfl, ?_, rfl, hErr⟩
  · rw [cofbEnc, hCofb]
  · rw [cofbEnc, hCofb]
    rfl

/-- Settles O58: the session leads to the TAG state with the expected tag in Y, and VERIFY compares it. -/
theorem sessionDecrypts : Obligations.SessionDecrypts := by
  intro s nonce fill tag a c hInit hAdFits hMsgFits hDlen hMlen
  obtain ⟨t, seen, hRun, hFsm, hDir, hErr, hCofb⟩ :=
    runCommands_session .decrypt nonce fill a c hInit hAdFits hMsgFits hDlen hMlen
  refine ⟨t, seen, _, hRun, hFsm, ?_,
    command_of_admitted tag (by decide) ((failedCheck_verify_eq_none_iff t).mpr ⟨hFsm, hDir⟩) rfl, rfl, ?_, rfl, rfl,
    hErr⟩
  · rw [cofbDec, hCofb]
  · rw [cofbDec, hCofb]
    rfl

end Sys2Proof.Laws
end

section
/-! SUPPORT. The accumulator of ct_equal, for any list of differences (44_tag_verify.md rule R191). -/

namespace Sys2Proof.Laws

/-- An OR accumulator is 0 at the end exactly when it starts at 0 and every item ORed into it is 0: once set, a bit stays. -/
theorem foldl_or_eq_zero_iff {w : Nat} (f : Nat → BitVec w) (acc : BitVec w) (l : List Nat) :
    l.foldl (fun acc i => acc ||| f i) acc = 0#w ↔ acc = 0#w ∧ ∀ i ∈ l, f i = 0#w := by
  induction l generalizing acc with
  | nil => simp
  | cons i l ih => rw [List.foldl_cons, ih, BitVec.or_eq_zero_iff, List.forall_mem_cons, and_assoc]

end Sys2Proof.Laws
end

section
/-! CLAIMS. VERIFY and its comparison (44_tag_verify.md). -/

namespace Sys2Proof.Laws

open Sys2Proof.Machine

/-- The accumulator stays 0 exactly when the tags agree in each of the 16 bytes. -/
theorem ctAccumulate_eq_zero_iff (t t' : Block) :
    ctAccumulate t t' = 0x00#8 ↔ ∀ i, i < 16 → byteOf t i = byteOf t' i := by
  simp only [ctAccumulate, foldl_or_eq_zero_iff, true_and, List.mem_range, BitVec.xor_eq_zero_iff]

/-- Settles O49: the accumulator finds a difference in any byte, and a block is its 16 bytes. -/
theorem ctEqualIsEquality : Obligations.CtEqualIsEquality := by
  intro t t'
  rw [ctEqual, decide_eq_true_iff, ctAccumulate_eq_zero_iff]
  exact ⟨eq_of_byteOf_eq, fun h _ _ => h ▸ rfl⟩

theorem ctEqual_eq_decide (t t' : Block) : ctEqual t t' = decide (t = t') :=
  Bool.eq_iff_iff.mpr ((ctEqualIsEquality t t').trans decide_eq_true_iff.symm)

/-- Settles O48: the TAG state of a decryption session admits VERIFY, and its effect writes the comparison of din with Y. -/
theorem verifyClosesSession : Obligations.VerifyClosesSession := by
  intro s hf hd
  rw [exec_of_admitted ((failedCheck_verify_eq_none_iff s).mpr ⟨hf, hd⟩), effect, ctEqual_eq_decide]
  rfl

/-- Settles O50: the checks do not read the tag, so both runs are rejected with one record or both close the session, where
only AUTH_OK is written from the tag. -/
theorem verifyRevealsOneBit : Obligations.VerifyRevealsOneBit := by
  intro s t u d ht hu
  have hCheck : failedCheck .verify (withDin d s) = failedCheck .verify s := failedCheck_congr .verify rfl rfl
  change exec .verify (withDin d s) = .next u at hu
  cases hs : failedCheck .verify s with
  | none =>
    rw [exec_of_admitted hs] at ht
    rw [exec_of_admitted (hCheck.trans hs)] at hu
    cases ht
    cases hu
    rfl
  | some c =>
    rw [exec_of_rejected hs] at ht
    rw [exec_of_rejected (hCheck.trans hs), reject_withDin] at hu
    cases ht
    cases hu
    rfl

end Sys2Proof.Laws
end

section
/-! CLAIMS. The control commands (45_control.md rules R200 to R203). -/

namespace Sys2Proof.Laws

open Sys2Proof.Machine

/-- R220's rows for the control commands have no '-', and neither R72 nor R221 restricts them. -/
theorem failedCheck_control {i : Instr} (hi : i ∈ [Instr.nop, .clrerr, .abort, .rderr]) (s : State) : failedCheck i s = none := by
  rw [failedCheck_eq_none_iff]
  fin_cases hi <;> exact ⟨rfl, rfl, rfl⟩

theorem exec_control {i : Instr} (hi : i ∈ [Instr.nop, .clrerr, .abort, .rderr]) (s : State) : exec i s = effect i s :=
  exec_of_admitted (failedCheck_control hi s)

/-- Settles O23: every state admits the four commands, and each effect is the write stated; RDERR's zero extension of ERR_CMD is
96 zero bits above it. -/
theorem controlCommands : Obligations.ControlCommands := by
  intro s
  have hZext : s.errCmd.setWidth 128 = 0#96 ++ s.errCmd := BitVec.setWidth_eq_append (by decide)
  refine ⟨exec_control (by simp) s, exec_control (by simp) s, exec_control (by simp) s, ?_⟩
  rw [exec_control (by simp), effect, hZext]
  rfl

end Sys2Proof.Laws
end

section
/-! SUPPORT. What the checks of the state find, in opcodes (60_exceptions.md rules R210, R220, R221), and that a command is
well formed when its word decodes (30_encoding.md rule R72). -/

namespace Sys2Proof.Laws

open Sys2Proof.Machine

/-- The '-' entries of R220's table, by OPC value. -/
theorem legalIn_eq_false_iff (i : Instr) (f : Fsm) :
    legalIn i f = false ↔
      (f ≠ .init ∧ opcode i ∈ [0x08#8, 0x09#8, 0x10#8, 0x11#8, 0x12#8, 0x13#8, 0x20#8, 0x21#8, 0x22#8, 0x23#8, 0x40#8])
      ∨ (¬ (f = .adIntermediate ∨ f = .adFinal) ∧ opcode i = 0x41#8)
      ∨ (¬ (f = .msgIntermediate ∨ f = .msgFinal) ∧ opcode i = 0x42#8)
      ∨ (f ≠ .tag ∧ (opcode i = 0x43#8 ∨ opcode i = 0x44#8)) := by
  cases i <;> simp [legalIn, opcode]

/-- R221 by OPC value. -/
theorem dirAgrees_eq_false_iff (i : Instr) (d : Dir) :
    dirAgrees i d = false ↔ (opcode i = 0x43#8 ∧ d = .decrypt) ∨ (opcode i = 0x44#8 ∧ d = .encrypt) := by
  cases i <;> cases d <;> simp [dirAgrees, opcode]

/-- A command that decodes has the OPC of its word. -/
theorem opcode_of_decode {w : Word32} {i : Instr} (h : decode w = .ok i) : opcode i = opcField w :=
  opcode_of_lookupOpcode ((decode_eq_ok_iff w i).mp h).1

/-- The operand limit of a command is R72's limit on the field it takes its operand from. -/
theorem wellFormed_of_mem_opcodeMap {row : OpcodeRow} (h : row ∈ opcodeMap) {rcnt : BitVec 6} {dirb : BitVec 1}
    (hRcnt : rcntLegal (row.2 rcnt dirb) rcnt = true) : (row.2 rcnt dirb).wellFormed = true := by
  unfold opcodeMap at h
  fin_cases h
  on_goal 9 => exact hRcnt -- BCPERM's row, the one command with a limit
  all_goals rfl

/-- A command that decodes is well formed, so check 2 of R210 is the decoder's alone for a command word. -/
theorem wellFormed_of_decode {w : Word32} {i : Instr} (h : decode w = .ok i) : i.wellFormed = true := by
  obtain ⟨hLookup, -, hRcnt, -⟩ := (decode_eq_ok_iff w i).mp h
  obtain ⟨row, hFind, rfl⟩ := Option.map_eq_some_iff.mp hLookup
  exact wellFormed_of_mem_opcodeMap (List.mem_of_find?_eq_some hFind) hRcnt

/-- A word decodes when neither check of the word fails. -/
theorem exists_decode_of_fields {w : Word32} (hOpc : decode w ≠ .error .illegalOpcode) (hField : decode w ≠ .error .badField) :
    ∃ i, decode w = .ok i := by
  cases h : decode w with
  | ok i => exact ⟨i, rfl⟩
  | error c =>
    rcases decode_error h with rfl | rfl
    · exact absurd h hOpc
    · exact absurd h hField

theorem perform_of_decode {s : State} {i : Instr} (h : decode s.cmd = .ok i) : perform s = exec i s := by
  rw [perform, h]

end Sys2Proof.Laws
end

section
/-! CLAIMS. The checks of a command, its rejection and the error record (60_exceptions.md sections 1 to 3). -/

namespace Sys2Proof.Laws

open Sys2Proof.Machine Sys2Proof.Safety

/-- A check of the state fails with an error that R211 names. -/
theorem failedCheck_ne_noError {i : Instr} {s : State} {c : ErrCode} (h : failedCheck i s = some c) : c ≠ .noError := by
  rintro rfl
  simp [failedCheck_eq_some_iff] at h

/-- Settles O18: a failed check has an error that R211 names, and a rejection is the record of R213, which ERR = 1 keeps. -/
theorem rejectionOnlyRecords : Obligations.RejectionOnlyRecords := by
  refine ⟨fun s c h => ⟨checkCommand_error_ne_noError h, fun he => ?_, fun he => ?_⟩,
    fun i s c h => ⟨failedCheck_ne_noError h, fun he => ?_, fun he => ?_⟩⟩
  · rw [perform_of_failed h, reject_of_err he]
  · rw [perform_of_failed h, reject_of_no_err he, writeError]
  · rw [exec_of_rejected h, reject_of_err he]
  · rw [exec_of_rejected h, reject_of_no_err he, writeError]

/-- Settles O17: the decoder makes the first two checks; a word that passes them decodes to a well-formed command with its OPC,
for which the legality table and the direction check are read by that OPC. -/
theorem checksInOrder : Obligations.ChecksInOrder := by
  intro s
  refine ⟨fun _ => rfl, ?_⟩
  split_ifs with hOpc hField hState hDir
  · exact perform_of_decode_error ((decode_eq_illegal_iff_unassigned s.cmd).mpr hOpc)
  · exact perform_of_decode_error ((decode_eq_badField_iff_fields s.cmd).mpr ⟨hOpc, hField⟩)
  all_goals
    obtain ⟨i, hDecode⟩ := exists_decode_of_fields (mt (decode_eq_illegal_iff_unassigned s.cmd).mp hOpc)
      (mt (decode_eq_badField_iff_fields s.cmd).mp fun h => hField h.2)
    have hWellFormed := wellFormed_of_decode hDecode
    have hLegal := legalIn_eq_false_iff i s.fsm
    have hAgrees := dirAgrees_eq_false_iff i s.dir
    rw [opcode_of_decode hDecode] at hLegal hAgrees
  · rw [perform_of_decode hDecode]
    exact exec_of_rejected ((failedCheck_eq_some_iff i s _).mpr (.inr (.inl ⟨hWellFormed, hLegal.mpr hState, rfl⟩)))
  · have hLegalIn := Bool.of_not_eq_false (mt hLegal.mp hState)
    rw [perform_of_decode hDecode]
    exact exec_of_rejected
      ((failedCheck_eq_some_iff i s _).mpr (.inr (.inr ⟨hWellFormed, hLegalIn, hAgrees.mpr hDir, rfl⟩)))
  · have hLegalIn := Bool.of_not_eq_false (mt hLegal.mp hState)
    have hDirAgrees := Bool.of_not_eq_false (mt hAgrees.mp hDir)
    exact ⟨i, hDecode, perform_of_decode hDecode, (failedCheck_eq_none_iff i s).mpr ⟨hWellFormed, hLegalIn, hDirAgrees⟩⟩

/-- Only RDERR's effect reads the error record and only CLRERR's writes it. -/
theorem effect_writeError {i : Instr} (hRderr : i ≠ .rderr) (hClrerr : i ≠ .clrerr) (e : Bool) (c : ErrCode) (w : Word32)
    (s : State) : effect i (writeError e c w s) = mapNext (writeError e c w) (effect i s) := by
  cases i
  case rderr => exact absurd rfl hRderr
  case clrerr => exact absurd rfl hClrerr
  case ad =>
    simp only [effect, runAd, runFinalAd, writeError_fsm, writeError_adRem, apply_ite (mapNext (writeError e c w))]
    rfl
  case msg =>
    simp only [effect, runMsg, runFinalMsg, writeError_fsm, writeError_msgRem, apply_ite (mapNext (writeError e c w))]
    rfl
  all_goals rfl

/-- Settles O22: the checks do not read the record, nor do the effects but RDERR's, whose zero extension is 96 zero bits above
ERR_CMD. -/
theorem errorsDoNotBlock : Obligations.ErrorsDoNotBlock := by
  intro i s e c w
  have hCheck : failedCheck i (writeError e c w s) = failedCheck i s := failedCheck_congr i rfl rfl
  obtain ⟨-, hClrerr, -, hRderr⟩ := controlCommands (writeError e c w s)
  refine ⟨hCheck, fun hAdmitted hNotRderr hNotClrerr => ?_, hClrerr, hRderr⟩
  rw [exec_of_admitted hAdmitted, exec_of_admitted (hCheck.trans hAdmitted), effect_writeError hNotRderr hNotClrerr]

end Sys2Proof.Laws
end

section
/-! CLAIMS. What DOUT shows after a command, and what stays hidden from it (10_state.md rule R22; 60_exceptions.md rules R221,
R222). -/

namespace Sys2Proof.Laws

open Sys2Proof.Machine

/-- What DOUT holds after a command that runs its effect, as a function of the state before it. -/
def doutAfter : Instr → State → Block
  | .abort, _ | .verify, _ => 0#128
  | .rderr, s => s.errCmd.setWidth 128
  | .rdlen, s => s.adRem ++ s.msgRem
  | .rds, s => join32 s.sReg
  | .rdw, s => join16 s.wReg
  | .rdl, s => inHighHalf (lValue s)
  | .fbg, s => feedback (blockOperand s)
  | .msg, s => if s.fsm = .msgIntermediate then blockOperand s ^^^ yValue s else finalOutput s.msgRem.toNat s
  | .tag, s => yValue s
  | _, s => s.dout

/-- Every effect that answers a next state leaves that in DOUT. -/
theorem effect_dout {i : Instr} {s t : State} (h : effect i s = .next t) : t.dout = doutAfter i s := by
  cases i
  case ad => obtain ⟨-, -, rfl⟩ | ⟨-, -, rfl⟩ := effect_ad_cases h <;> rfl
  case msg =>
    obtain ⟨hf, -, rfl⟩ | ⟨hf, -, rfl⟩ := effect_msg_cases h
    · exact (if_pos hf).symm
    · exact (if_neg hf).symm
  all_goals cases h; rfl

/-- Two states with the same checks and the same DOUT before a command have the same DOUT after it, when its effect, where it
runs, writes the same. -/
theorem exec_dout_congr {i : Instr} {s s' t u : State} (ht : exec i s = .next t) (hu : exec i s' = .next u)
    (hCheck : failedCheck i s' = failedCheck i s) (hDout : s'.dout = s.dout)
    (hAfter : failedCheck i s = none → doutAfter i s' = doutAfter i s) : u.dout = t.dout := by
  cases hs : failedCheck i s with
  | none =>
    rw [effect_dout (effect_of_exec ht hs), effect_dout (effect_of_exec hu (hCheck.trans hs)), hAfter hs]
  | some c =>
    rw [exec_of_rejected hs] at ht
    rw [exec_of_rejected (hCheck.trans hs)] at hu
    cases ht
    cases hu
    simpa [reject_eq_writeError] using hDout

/-- RDS, RDW and RDL, which show S, W and L, are admitted in INIT only. -/
theorem fsm_of_admitted_register_read {i : Instr} (hi : i ∈ [Instr.rds, .rdw, .rdl]) {s : State} (h : failedCheck i s = none) :
    s.fsm = .init := by
  obtain ⟨-, hLegal, -⟩ := (failedCheck_eq_none_iff i s).mp h
  fin_cases hi <;> exact of_decide_eq_true hLegal

/-- Settles O55: no effect writes DOUT from KEY, and RDS, RDW and RDL, the only ones that write it from S, W or L, are rejected
outside INIT. -/
theorem secretsStayHidden : Obligations.SecretsStayHidden := by
  intro i s t u k a b l ht
  refine ⟨fun hu => exec_dout_congr ht hu (failedCheck_congr i rfl rfl) rfl fun _ => ?_,
    fun hf hu => exec_dout_congr ht hu (failedCheck_congr i rfl rfl) rfl fun hAdmitted => ?_⟩
  · cases i <;> rfl
  · cases i
    case rds | rdw | rdl => exact absurd (fsm_of_admitted_register_read (by simp) hAdmitted) hf
    all_goals rfl

/-- In the TAG state of a decryption session a command that passes its checks does not absorb a block and is not TAG. -/
theorem not_absorbs_of_tag_decrypt {i : Instr} {s : State} (hf : s.fsm = .tag) (hd : s.dir = .decrypt)
    (h : failedCheck i s = none) : i ∉ [Instr.ad, .msg, .tag] ∧ ∀ dir, i ≠ .start dir := by
  obtain ⟨-, hLegal, hAgrees⟩ := (failedCheck_eq_none_iff i s).mp h
  rw [hf] at hLegal
  rw [hd] at hAgrees
  cases i
  case ad | msg | start => cases hLegal
  case tag => cases hAgrees
  all_goals exact ⟨by simp, nofun⟩

/-- Settles O56: MSG and TAG, the only effects that write DOUT from Y, are rejected there; an effect that writes Y is a scrub, and
one that is not leaves FSM and DIR. -/
theorem candidateTagHidden : Obligations.CandidateTagHidden := by
  intro i s t u y hf hd ht hu
  refine ⟨exec_dout_congr ht hu (failedCheck_congr i rfl rfl) rfl fun hAdmitted => ?_, ?_⟩
  · obtain ⟨hNot, -⟩ := not_absorbs_of_tag_decrypt hf hd hAdmitted
    cases i
    case msg | tag => simp at hNot
    all_goals rfl
  · obtain ⟨c, -, rfl⟩ | ⟨hAdmitted, hEffect⟩ := exec_next_cases ht
    · simp [reject_eq_writeError, hf, hd]
    · obtain ⟨hNot, hNotStart⟩ := not_absorbs_of_tag_decrypt hf hd hAdmitted
      cases effect_writes hEffect
      case start dir _ _ _ _ _ => exact absurd rfl (hNotStart dir)
      case ad | msg => simp at hNot
      case close | verify => exact .inr rfl
      all_goals exact .inl ⟨rfl, hf, hd⟩

end Sys2Proof.Laws
end

section
/-! SUPPORT. The latency of a command from its checks and its parameter, and a completing edge where only the handshake differs
(70_reset_and_hazards.md rules R237, R238). -/

namespace Sys2Proof.Laws

open Sys2Proof.Machine

theorem latency_of_failed {s : State} {c : ErrCode} (h : checkCommand s = .error c) : latency s = max 1 s.lat.reject := by
  rw [latency, h]

theorem latency_of_checked {s : State} {i : Instr} (h : checkCommand s = .ok i) : latency s = max 1 (latencyOf i s) := by
  rw [latency, h]

/-- A final message block takes one mask multiplication when full and two otherwise (R163); its parameter has the index one less. -/
theorem finalBlockSteps_sub_one (r : Word64) : finalBlockSteps r.toNat - 1 = if r = 16#64 then 0 else 1 := by
  simp only [finalBlockSteps, toNat_eq_sixteen_iff]
  split <;> rfl

/-- A final AD block takes two more when no message follows (R160). -/
theorem finalAdSteps_sub_one (r m : Word64) : finalAdSteps r.toNat m - 1 =
    if m = 0#64 then (if r = 16#64 then 2 else 3) else (if r = 16#64 then 0 else 1) := by
  simp only [finalAdSteps, finalBlockSteps, toNat_eq_sixteen_iff]
  split <;> split <;> rfl

/-- A completing edge with the same coming moves leaves the same, whatever BUSY and the edges left were. -/
theorem complete_withHandshake_of_host (b : Bool) (w : Nat) {h : List HostMove} {s : State} (hHost : s.host = h) :
    complete (withHandshake b w h s) = complete s := by
  subst hHost
  exact (complete_withHandshake b w s.host s).trans (complete_withHandshake s.busy s.wait s.host s).symm

end Sys2Proof.Laws
end

section
/-! CLAIMS. Reset and the latency of a command (70_reset_and_hazards.md rules R230, R232, R237, R238). -/

namespace Sys2Proof.Laws

open Sys2Proof.Machine

/-- STATUS after a reset edge is STATUS at reset, which is 0 (R33, R231). -/
theorem status_resetEngine (later : List HostMove) (s : State) : status (resetEngine later s) = 0#32 :=
  have hSame : status (resetEngine later s) = status State.reset := rfl
  hSame.trans statusLayout.1

/-- Settles O7: a reset edge answers the state after reset with the host's later moves, whatever the state before it. -/
theorem resetAtAnyEdge : Obligations.ResetAtAnyEdge := by
  intro s later hHost
  have hNotReady : cmdReady s = false := by simp [cmdReady, rstIn, hHost]
  refine ⟨hNotReady, resetEngine later s, step_of_reset hHost, rfl, rfl, rfl, rfl, rfl, rfl, rfl, rfl, rfl, rfl, rfl, rfl,
    rfl, rfl, rfl, rfl, rfl, rfl, rfl, status_resetEngine later s, fun rest hAgain => step_of_reset hAgain,
    fun c d rest hNext => ?_⟩
  rw [hNext]
  rfl

/-- Settles O60: a latency is that of the error or of the command the checks answer; a final block's parameter is found at its
number of mask multiplications. -/
theorem latencyParameters : Obligations.LatencyParameters := by
  refine fun s => ⟨fun _ => latency_of_failed, fun i h => (latency_of_checked h).trans (congrArg (max 1) ?_)⟩
  cases i
  case ad => simp only [latencyOf, finalAdSteps_sub_one, apply_ite (s.lat.adFin.getD · 1)]
  case msg => simp only [latencyOf, finalBlockSteps_sub_one]
  all_goals rfl

/-- A run of one edge of this machine. -/
theorem core_run_one (s : State) : core.run 1 s = step s := run_one core s

/-- The engine while it executes (c, d), with w edges left. -/
def executing (c : Word32) (d : Block) (w : Nat) (s : State) : State :=
  { s with cmd := c, din := d, busy := true, wait := w }

/-- An idle host's edge lets the running command proceed. -/
theorem step_executing {s : State} (hHost : s.host = []) (c : Word32) (d : Block) (w : Nat) :
    step (executing c d w s) = proceed (executing c d w s) :=
  step_of_busy rfl (by simp [executing, hHost]) (by simp [executing, hHost])

/-- The first edge accepts the presented command, which was the host's last move. -/
theorem step_presented {s : State} (hBusy : s.busy = false) (hHost : s.host = []) (c : Word32) (d : Block) :
    step { s with host := [.command c d] } = accept c d s := by
  have hSame : { s with host := [] } = s := by rw [← hHost]
  exact (step_of_accept (s := { s with host := [.command c d] }) hBusy rfl).trans (congrArg (accept c d) hSame)

/-- After k edges of the n a command takes, it is still executing and no register has changed, by induction on k. -/
theorem run_before_completion {s : State} {c : Word32} {d : Block} (hBusy : s.busy = false) (hHost : s.host = []) {k : Nat}
    (hk : 1 ≤ k) (hBefore : k < latency (sample c d s)) :
    core.run k { s with host := [.command c d] } = .next (executing c d (latency (sample c d s) - k) s) := by
  induction k, hk using Nat.le_induction with
  | base =>
    rw [core_run_one, step_presented hBusy hHost, accept, if_neg (Nat.not_le.mpr hBefore)]
    rfl
  | succ k hk ih =>
    have hWaits : 1 < latency (sample c d s) - k := by omega
    rw [run_add_of_next k 1 (ih (by omega)), core_run_one, step_executing hHost, proceed_waits rfl hWaits]
    rfl

/-- The last of the n edges gives the command-level step. -/
theorem run_to_completion {s : State} (c : Word32) (d : Block) (hBusy : s.busy = false) (hHost : s.host = []) :
    core.run (latency (sample c d s)) { s with host := [.command c d] } = command c d s := by
  obtain hOne | hLonger := (one_le_latency (sample c d s)).eq_or_lt
  · rw [← hOne, core_run_one, step_presented hBusy hHost, accept, if_pos hOne.ge]
    rfl
  · obtain ⟨n, hn⟩ : ∃ n, latency (sample c d s) = n + 1 := ⟨latency (sample c d s) - 1, by omega⟩
    have hBefore := run_before_completion (k := n) hBusy hHost (by omega) (by omega : n < latency (sample c d s))
    rw [hn, Nat.add_sub_cancel_left] at hBefore
    have hExecuting : executing c d 1 s = withHandshake true 1 [] (sample c d s) := by rw [← hHost]; rfl
    rw [hn, run_add_of_next n 1 hBefore, core_run_one, step_executing hHost, proceed_last rfl (Nat.le_refl 1), hExecuting]
    exact complete_withHandshake_of_host true 1 (s := sample c d s) hHost

/-- Settles O6: the edges before the last count down, and the last one completes the command as the accepting edge of a command
of latency 1 does. -/
theorem completesAfterLatency : Obligations.CompletesAfterLatency := by
  intro s c d hBusy hHost
  refine ⟨one_le_latency _, fun _ => latency_of_failed, run_to_completion c d hBusy hHost, fun t ht => ?_,
    fun k hk hBefore => run_before_completion hBusy hHost hk hBefore⟩
  obtain ⟨u, -, rfl⟩ := complete_next ht
  rfl

end Sys2Proof.Laws
end

section
/-! SUPPORT. What depends on public state only: the checks, the latency, a rejection, and what each effect writes to public
registers (70_reset_and_hazards.md rule R239). -/

namespace Sys2Proof.Laws

open Sys2Proof.Machine Sys2Proof.Safety

/-- Two next states are the same kind of answer when they agree on everything public. -/
theorem samePublicResult_next {s t : State} (h : SamePublic s t) : samePublicResult (.next s) (.next t) := h

/-- The checks read the command word, FSM and DIR. -/
theorem checkCommand_eq_of_samePublic {s t : State} (h : SamePublic s t) : checkCommand s = checkCommand t := by
  simp only [checkCommand, h.cmd, failedCheck_congr _ h.fsm h.dir]

/-- A latency reads the checks, the latency parameters, FSM and the counters. -/
theorem latency_eq_of_samePublic {s t : State} (h : SamePublic s t) : latency s = latency t := by
  simp only [latency, latencyOf, checkCommand_eq_of_samePublic h, h.lat, h.fsm, h.adRem, h.msgRem]

theorem reject_samePublic (c : ErrCode) {s t : State} (h : SamePublic s t) : SamePublic (reject c s) (reject c t) := by
  rw [reject_eq_writeError, reject_eq_writeError, h.err, h.errCode, h.errCmd, h.cmd]
  exact { h with err := rfl, errCode := rfl, errCmd := rfl }

/-- AD in both its states: the counters decide whether it stops, what is left and the next state. -/
theorem effect_ad_samePublic {s t : State} (h : SamePublic s t) : samePublicResult (effect .ad s) (effect .ad t) := by
  simp only [effect, runAd, runFinalAd, h.fsm, h.adRem]
  split <;> split
  case isTrue.isFalse =>
    exact samePublicResult_next
      { h with fsm := congrArg (fun n => adPhase (n - 16#64)) h.adRem, adRem := congrArg (· - 16#64) h.adRem }
  case isFalse.isFalse => exact samePublicResult_next { h with fsm := congrArg afterAd h.msgRem, adRem := Eq.refl 0#64 }
  all_goals rfl

/-- MSG in both its states, likewise. -/
theorem effect_msg_samePublic {s t : State} (h : SamePublic s t) : samePublicResult (effect .msg s) (effect .msg t) := by
  simp only [effect, runMsg, runFinalMsg, h.fsm, h.msgRem]
  split <;> split
  case isTrue.isFalse =>
    exact samePublicResult_next
      { h with fsm := congrArg (fun n => msgPhase (n - 16#64)) h.msgRem, msgRem := congrArg (· - 16#64) h.msgRem }
  case isFalse.isFalse => exact samePublicResult_next { h with fsm := Eq.refl Fsm.tag, msgRem := Eq.refl 0#64 }
  all_goals rfl

/-- What every effect writes to a public register is a function of public registers, and of LDLEN's public operand. -/
theorem effect_samePublic {i : Instr} {s t : State} (h : SamePublic s t) (hDin : i = .ldlen → s.din = t.din) :
    samePublicResult (effect i s) (effect i t) := by
  cases i
  case ad => exact effect_ad_samePublic h
  case msg => exact effect_msg_samePublic h
  all_goals refine samePublicResult_next ?_
  case ldlen => exact { h with dlen := congrArg highHalf (hDin rfl), mlen := congrArg lowHalf (hDin rfl) }
  case start dir =>
    exact { h with
      fsm := congrArg adPhase h.dlen, dir := Eq.refl dir, adRem := h.dlen, msgRem := h.mlen, authDone := Eq.refl false }
  case clrerr => exact { h with err := rfl, errCode := rfl, errCmd := rfl }
  case abort | tag => exact { h with fsm := Eq.refl Fsm.init, adRem := Eq.refl 0#64, msgRem := Eq.refl 0#64 }
  case verify =>
    exact { h with
      fsm := Eq.refl Fsm.init, adRem := Eq.refl 0#64, msgRem := Eq.refl 0#64, authDone := Eq.refl true }
  all_goals exact { h with }

/-- A word that decodes to LDLEN has a public operand. -/
theorem dinIsPublic_of_decode_ldlen {w : Word32} (h : decode w = .ok .ldlen) : dinIsPublic w = true :=
  decide_eq_true (opcode_of_decode h).symm

/-- Two hosts that agree on everything public make the same kind of move. -/
theorem samePublicMove_cases {m m' : HostMove} (h : samePublicMove m m') :
    (∃ c d d', m = .command c d ∧ m' = .command c d' ∧ (dinIsPublic c = true → d = d'))
      ∨ (m = .idle ∧ m' = .idle) ∨ (m = .reset ∧ m' = .reset) :=
  match m, m', h with
  | .command c d, .command _ d', ⟨rfl, hDin⟩ => .inl ⟨c, d, d', rfl, rfl, hDin⟩
  | .idle, .idle, _ => .inr (.inl ⟨rfl, rfl⟩)
  | .reset, .reset, _ => .inr (.inr ⟨rfl, rfl⟩)

end Sys2Proof.Laws
end

section
/-! CLAIMS. Constant time: no secret reaches the timing, the rejections or the public registers (70_reset_and_hazards.md rule
R239). -/

namespace Sys2Proof.Laws

open Sys2Proof.Machine Sys2Proof.Safety

/-- Both engines reject the sampled command with one code, or both run its effect. -/
theorem perform_samePublic {s t : State} (h : SamePublic s t) : samePublicResult (perform s) (perform t) := by
  have hSame := checkCommand_eq_of_samePublic h
  cases hCheck : checkCommand s with
  | error c =>
    rw [perform_of_failed hCheck, perform_of_failed (hSame.symm.trans hCheck)]
    exact reject_samePublic c h
  | ok i =>
    rw [perform_of_checked hCheck, perform_of_checked (hSame.symm.trans hCheck)]
    refine effect_samePublic h fun hLdlen => h.din ?_
    subst hLdlen
    exact dinIsPublic_of_decode_ldlen ((checkCommand_eq_ok_iff s _).mp hCheck).1

/-- Retiring a command keeps the agreement: the operand is gone. -/
theorem retired_samePublic {r r' : Result} (h : samePublicResult r r') : samePublicResult (retired r) (retired r') := by
  cases r <;> cases r'
  case next.next s t => exact samePublicResult_next { h with busy := rfl, cmd := rfl, din := fun _ => rfl, wait := rfl }
  all_goals exact h

theorem complete_samePublic {s t : State} (h : SamePublic s t) : samePublicResult (complete s) (complete t) :=
  retired_samePublic (perform_samePublic h)

theorem accept_samePublic {s t : State} (c : Word32) {d d' : Block} (h : SamePublic s t)
    (hDin : dinIsPublic c = true → d = d') : samePublicResult (accept c d s) (accept c d' t) := by
  have hSampled : SamePublic (sample c d s) (sample c d' t) := { h with cmd := rfl, din := hDin }
  rw [accept, accept, latency_eq_of_samePublic hSampled]
  split
  · exact complete_samePublic hSampled
  · exact samePublicResult_next { hSampled with busy := rfl, wait := rfl }

theorem proceed_samePublic {s t : State} (h : SamePublic s t) : samePublicResult (proceed s) (proceed t) := by
  rw [proceed, proceed, h.busy, h.wait]
  split
  · split
    · exact complete_samePublic h
    · exact samePublicResult_next { h with busy := rfl, wait := rfl }
  · exact h

/-- Of the state before it a reset edge leaves only the latencies and the coming moves. -/
theorem resetEngine_samePublic {later later' : List HostMove} {s t : State} (h : SamePublic s t)
    (hLater : List.Forall₂ samePublicMove later later') :
    SamePublic (resetEngine later s) (resetEngine later' t) := by
  constructor
  case lat => exact h.lat
  case host => exact hLater
  case din => exact fun _ => rfl
  all_goals rfl

/-- Settles O13: both hosts make the same kind of move, and each kind of edge keeps the agreement. -/
theorem constantTime : Obligations.ConstantTime := by
  intro s t h
  have hHost := h.host
  unfold step clockEdge
  generalize s.host = moves, t.host = moves' at hHost
  cases hHost with
  | nil => exact proceed_samePublic h
  | cons hMove hLater =>
    obtain ⟨c, d, d', rfl, rfl, hDin⟩ | ⟨rfl, rfl⟩ | ⟨rfl, rfl⟩ := samePublicMove_cases hMove
    · dsimp only
      rw [h.busy]
      split
      · exact proceed_samePublic h
      · exact accept_samePublic c { h with busy := rfl, host := hLater } hDin
    · exact proceed_samePublic { h with host := hLater }
    · exact resetEngine_samePublic h hLater

end Sys2Proof.Laws
end

section
/-! SUPPORT. The word of a command, and the command of a word, field by field (30_encoding.md rules R70 to R76, R80). -/

namespace Sys2Proof.Laws

/-- Every field of a command's word, command by command. -/
theorem wordFields : ∀ i : Instr, WordFields.Statement i
  | .nop => WordFields.nop
  | .clrerr => WordFields.clrerr
  | .abort => WordFields.abort
  | .rderr => WordFields.rderr
  | .ldkey => WordFields.ldkey
  | .ldlen => WordFields.ldlen
  | .rdlen => WordFields.rdlen
  | .bcinit => WordFields.bcinit
  | .bcperm rcnt => WordFields.bcperm rcnt
  | .rds => WordFields.rds
  | .rdw => WordFields.rdw
  | .ldl => WordFields.ldl
  | .rdl => WordFields.rdl
  | .mul2 => WordFields.mul2
  | .mul3 => WordFields.mul3
  | .fbg => WordFields.fbg
  | .start dir => WordFields.start dir
  | .ad => WordFields.ad
  | .msg => WordFields.msg
  | .tag => WordFields.tag
  | .verify => WordFields.verify

/-- The opcode map gives a command back from the three fields its word is assembled with. -/
theorem lookupOpcode_of_fields (i : Instr) : lookupOpcode (opcode i) (rcntOf i) (dirOf i) = some i := by
  cases i
  case start dir => cases dir <;> rfl
  all_goals rfl

/-- The round count a command is assembled with breaks R72 only when the command itself does. -/
theorem rcntLegal_rcntOf (i : Instr) : rcntLegal i (rcntOf i) = i.wellFormed := by cases i <;> rfl

/-- The direction a command is assembled with keeps R73. -/
theorem dirLegal_dirOf (i : Instr) : dirLegal i (dirOf i) = true := by cases i <;> rfl

/-- Of a word with legal fields, each row's command takes over RCNT and DIR, or the field is 0. -/
theorem fields_of_mem_opcodeMap {row : OpcodeRow} (h : row ∈ opcodeMap) {rcnt : BitVec 6} {dirb : BitVec 1}
    (hRcnt : rcntLegal (row.2 rcnt dirb) rcnt = true) (hDir : dirLegal (row.2 rcnt dirb) dirb = true) :
    rcntOf (row.2 rcnt dirb) = rcnt ∧ dirOf (row.2 rcnt dirb) = dirb := by
  have hDirBit : dirBit (dirOfBit dirb) = dirb := by decide +revert
  unfold opcodeMap at h
  fin_cases h
  on_goal 17 => exact ⟨(of_decide_eq_true hRcnt).symm, hDirBit⟩ -- START's row
  on_goal 9 => exact ⟨rfl, (of_decide_eq_true hDir).symm⟩ -- BCPERM's row
  all_goals exact ⟨(of_decide_eq_true hRcnt).symm, (of_decide_eq_true hDir).symm⟩

/-- A word that decodes has the fields of the command it decodes to. -/
theorem fields_of_decode {w : Word32} {i : Instr} (h : decode w = .ok i) :
    opcode i = opcField w ∧ rcntOf i = rcntField w ∧ dirOf i = dirField w ∧ rsvField w = 0#17 := by
  have hOpc := opcode_of_decode h
  obtain ⟨hLookup, hRsv, hRcnt, hDir⟩ := (decode_eq_ok_iff w i).mp h
  obtain ⟨row, hFind, rfl⟩ := Option.map_eq_some_iff.mp hLookup
  obtain ⟨hRcntOf, hDirOf⟩ := fields_of_mem_opcodeMap (List.mem_of_find?_eq_some hFind) hRcnt hDir
  exact ⟨hOpc, hRcntOf, hDirOf, hRsv⟩

/-- The four fields of R70 make up the whole word. -/
theorem append_fields (w : Word32) : rsvField w ++ dirField w ++ rcntField w ++ opcField w = w := by
  have hJoin := @BitVec.extractLsb'_append_extractLsb'_eq_extractLsb' 32
  unfold rsvField dirField rcntField opcField
  rw [hJoin (by rfl), hJoin (by rfl), hJoin (by rfl), BitVec.extractLsb'_eq_self]

end Sys2Proof.Laws
end

section
/-! CLAIMS. Decoder and encoder undo each other (30_encoding.md). -/

namespace Sys2Proof.Laws

/-- Settles O1: the fields of a command's word select the command, and a well-formed command's are legal. -/
theorem decodeOfEncode : Obligations.DecodeOfEncode := by
  intro i hWellFormed
  obtain ⟨hOpc, hRcnt, hDir, hRsv⟩ := wordFields i
  rw [decode_eq_ok_iff, hOpc, hRcnt, hDir]
  exact ⟨lookupOpcode_of_fields i, hRsv, (rcntLegal_rcntOf i).trans hWellFormed, dirLegal_dirOf i⟩

/-- Settles O2: the two words have the same four fields. -/
theorem encodeOfDecode : Obligations.EncodeOfDecode := by
  intro w i h
  obtain ⟨hOpc, hRcnt, hDir, hRsv⟩ := fields_of_decode h
  obtain ⟨hOpc', hRcnt', hDir', hRsv'⟩ := wordFields i
  refine ⟨?_, wellFormed_of_decode h⟩
  rw [← append_fields w, ← append_fields (encode i), hOpc', hRcnt', hDir', hRsv', hOpc, hRcnt, hDir, hRsv]

/-- Settles O4: the decoder run on the 27 words. -/
theorem tableWordsDecode : Obligations.TableWordsDecode := by
  unfold Obligations.TableWordsDecode
  decide

end Sys2Proof.Laws
end

section
/-! SUPPORT. A rejection by the check that fails (60_exceptions.md rule R210). -/

namespace Sys2Proof.Laws

open Sys2Proof.Machine Sys2Proof.Safety

theorem exec_of_illFormed {i : Instr} {s : State} (hWellFormed : i.wellFormed = false) :
    exec i s = .next (recorded .badField s) :=
  exec_of_rejected ((failedCheck_eq_some_iff i s _).mpr (.inl ⟨hWellFormed, rfl⟩))

theorem exec_of_illegalIn {i : Instr} {s : State} (hWellFormed : i.wellFormed = true) (hLegal : legalIn i s.fsm = false) :
    exec i s = .next (recorded .badState s) :=
  exec_of_rejected ((failedCheck_eq_some_iff i s _).mpr (.inr (.inl ⟨hWellFormed, hLegal, rfl⟩)))

theorem exec_of_wrongDir {i : Instr} {s : State} (hWellFormed : i.wellFormed = true) (hLegal : legalIn i s.fsm = true)
    (hAgrees : dirAgrees i s.dir = false) : exec i s = .next (recorded .wrongDir s) :=
  exec_of_rejected ((failedCheck_eq_some_iff i s _).mpr (.inr (.inr ⟨hWellFormed, hLegal, hAgrees, rfl⟩)))

end Sys2Proof.Laws
end

section
/-! CLAIMS. What each check rejects (30_encoding.md rule R72; 60_exceptions.md rules R220, R221), and where AD and MSG stop
(43_cofb_fsm.md rule R170). -/

namespace Sys2Proof.Laws

open Sys2Proof.Machine Sys2Proof.Safety

/-- Settles O19: the '-' entries of R220's table, row by row; none of these commands is ill-formed. -/
theorem wrongStateRejected : Obligations.WrongStateRejected := by
  intro s
  refine ⟨fun hf i hi => ?_, fun hf rcnt hRcnt => ?_, fun hf dir => ?_, fun hInt hFinal => ?_, fun hInt hFinal => ?_,
    fun hf => ⟨?_, ?_⟩⟩
  · fin_cases hi <;> exact exec_of_illegalIn rfl (decide_eq_false hf)
  · exact exec_of_illegalIn (decide_eq_true hRcnt) (decide_eq_false hf)
  · exact exec_of_illegalIn rfl (decide_eq_false hf)
  · exact exec_of_illegalIn rfl (decide_eq_false (not_or_intro hInt hFinal))
  · exact exec_of_illegalIn rfl (decide_eq_false (not_or_intro hInt hFinal))
  · exact exec_of_illegalIn rfl (decide_eq_false hf)
  · exact exec_of_illegalIn rfl (decide_eq_false hf)

/-- Settles O20: R220 allows TAG and VERIFY in TAG, and R221 does not in the other direction. -/
theorem wrongDirectionRejected : Obligations.WrongDirectionRejected := fun s hf =>
  ⟨fun hd => exec_of_wrongDir rfl (decide_eq_true hf) ((dirAgrees_eq_false_iff .tag s.dir).mpr (.inl ⟨rfl, hd⟩)),
    fun hd => exec_of_wrongDir rfl (decide_eq_true hf) ((dirAgrees_eq_false_iff .verify s.dir).mpr (.inr ⟨rfl, hd⟩))⟩

/-- Settles O21: exec finds the command ill-formed, and the decoder finds the round count in its word's RCNT field. -/
theorem roundCountAbove40Rejected : Obligations.RoundCountAbove40Rejected := by
  intro s rcnt hRcnt
  obtain ⟨hOpc, hRcntField, -, -⟩ := WordFields.bcperm rcnt
  refine ⟨exec_of_illFormed (decide_eq_false (BitVec.not_le.mpr hRcnt)), ?_⟩
  rw [decode_eq_badField_iff_fields, hOpc, hRcntField]
  exact ⟨(by decide : ¬ Unassigned 0x11), .inr (.inr (.inl ⟨rfl, hRcnt⟩))⟩

/-- Settles O46: the state admits the command, whose effect finds the counter out of its range. -/
theorem counterOutOfRangeStops : Obligations.CounterOutOfRangeStops := by
  intro s
  refine ⟨fun hf hr => ?_, fun hf hr => ?_, fun hf hr => ?_, fun hf hr => ?_⟩
  · rw [exec_of_admitted ((failedCheck_ad_eq_none_iff s).mpr (.inl hf)), effect, if_pos hf, runAd, if_pos hr]
  · rw [exec_of_admitted ((failedCheck_ad_eq_none_iff s).mpr (.inr hf)), effect_ad_of_adFinal hf, runFinalAd, if_pos hr]
  · rw [exec_of_admitted ((failedCheck_msg_eq_none_iff s).mpr (.inl hf)), effect, if_pos hf, runMsg, if_pos hr]
  · rw [exec_of_admitted ((failedCheck_msg_eq_none_iff s).mpr (.inr hf)), effect_msg_of_msgFinal hf, runFinalMsg, if_pos hr]

end Sys2Proof.Laws
end

section
/-! SUPPORT. Edges with commands still presented: they are held while one runs, and no command sees them (20_memory.md rule R52;
70_reset_and_hazards.md rules R235, R237). -/

namespace Sys2Proof.Laws

open Sys2Proof.Machine

/-- A completing edge runs the command its word decodes to and retires it. -/
theorem complete_of_decode {s : State} {i : Instr} (h : decode s.cmd = .ok i) :
    complete s = Safety.mapNext retire (exec i s) := by
  rw [complete, perform_of_decode h, retired_eq_mapNext]

/-- An idle edge only uses up the host's move. -/
theorem step_of_idle {s : State} {later : List HostMove} (hHost : s.host = .idle :: later) :
    step s = proceed { s with host := later } := by
  simp [step, clockEdge, hHost]

/-- With latency 1 the accepting edge completes the command. -/
theorem accept_of_latency_le {s : State} {c : Word32} {d : Block} (h : latency (sample c d s) ≤ 1) :
    accept c d s = command c d s := if_pos h

/-- With a longer latency it only samples the command and starts it. -/
theorem accept_of_lt_latency {s : State} {c : Word32} {d : Block} (h : 1 < latency (sample c d s)) :
    accept c d s = .next (executing c d (latency (sample c d s) - 1) s) := if_neg (Nat.not_le.mpr h)

/-- A host that presents these commands one after the other. -/
def presented (cmds : List (Word32 × Block)) : List HostMove := cmds.map fun p => .command p.1 p.2

/-- A completing edge leaves the host's coming moves. -/
theorem complete_host {s t : State} (h : complete s = .next t) : t.host = s.host := by
  have hSame : Safety.mapNext (fun t => { t with host := s.host }) (complete s) = complete s :=
    (complete_withHandshake s.busy s.wait s.host s).symm
  rw [h] at hSame
  exact (congrArg State.host (Host.Outcome.next.inj hSame)).symm

/-- An edge that lets a command proceed leaves the host's moves. -/
theorem proceed_host {s t : State} (h : proceed s = .next t) : t.host = s.host := by
  unfold proceed at h
  split_ifs at h with hBusy hLast
  · exact complete_host h
  all_goals cases h; rfl

/-- What a command does does not depend on the host's coming moves. -/
theorem command_withHost {c : Word32} {d : Block} {s t : State} (h : command c d s = .next t) (moves : List HostMove) :
    command c d { s with host := moves } = .next { t with host := moves } := by
  have hMoves := complete_withHandshake s.busy s.wait moves (sample c d s)
  rw [show complete (sample c d s) = .next t from h] at hMoves
  exact hMoves

/-- Between two commands the engine is not busy and the host's moves are those before the command. -/
theorem command_handshake {c : Word32} {d : Block} {s t : State} (h : command c d s = .next t) :
    t.busy = false ∧ t.host = s.host := by
  obtain ⟨u, -, rfl⟩ := complete_next h
  exact ⟨rfl, complete_host (s := sample c d s) h⟩

/-- A busy engine lets its command proceed while the host presents commands or nothing. -/
theorem step_of_busy_presented {s : State} {cmds : List (Word32 × Block)} (hBusy : s.busy = true)
    (hHost : s.host = presented cmds) : step s = proceed s := by
  refine step_of_busy hBusy ?_ ?_ <;> cases cmds <;> simp [hHost, presented]

/-- An executing command completes with its last edge, by induction on the edges before that. -/
theorem run_executing {s : State} {later : List (Word32 × Block)} (hHost : s.host = presented later) (c : Word32) (d : Block)
    (w : Nat) : core.run (w + 1) (executing c d (w + 1) s) = complete (sample c d s) := by
  have hStep (w : Nat) : step (executing c d w s) = proceed (executing c d w s) := step_of_busy_presented rfl hHost
  induction w with
  | zero =>
    rw [core_run_one, hStep, proceed_last rfl (Nat.le_refl 1)]
    exact complete_withHandshake_of_host true 1 (s := sample c d s) rfl
  | succ w ih => exact (run_succ_of_next (w + 1) ((hStep _).trans (proceed_waits rfl (by simp [executing])))).trans ih

end Sys2Proof.Laws
end

section
/-! CLAIMS. What an edge does with a presented command and without one, and the run of a host that presents commands one after the
other (20_memory.md; 70_reset_and_hazards.md). -/

namespace Sys2Proof.Laws

open Sys2Proof.Machine

/-- Settles O5: at its accepting edge with latency 1, and at its last edge, a command completes. -/
theorem stepRunsDecoded : Obligations.StepRunsDecoded := by
  refine ⟨fun s c d later i hBusy hHost hDecode hOne => ?_, fun s i hBusy hWait hRst hIdle hDecode => ?_,
    fun s later i hBusy hWait hHost hDecode => ?_⟩
  · rw [step_of_accept hBusy hHost]
    exact (accept_of_latency_le (s := { s with host := later }) hOne.le).trans (complete_of_decode hDecode)
  · rw [step_of_busy hBusy ((rstIn_eq_false_iff s).mp hRst) hIdle, proceed_last hBusy hWait.le]
    exact complete_of_decode hDecode
  · rw [step_of_idle hHost]
    exact (proceed_last (s := { s with host := later }) hBusy hWait.le).trans (complete_of_decode hDecode)

/-- Settles O11: while BUSY = 1 the edge lets the running command proceed, which leaves the host's moves; with BUSY = 0 there is
nothing to proceed with. -/
theorem handshakeHold : Obligations.HandshakeHold := by
  refine ⟨fun s t c d later hBusy hHost hStep => ?_, fun s later hBusy hHost => ?_, fun s hBusy hHost => ?_⟩
  · rw [step_of_busy hBusy (by simp [hHost]) (by simp [hHost])] at hStep
    exact proceed_host hStep
  · rw [step_of_idle hHost]
    exact proceed_ready hBusy
  · simp only [step, clockEdge, hHost]
    exact proceed_ready hBusy

/-- Settles O8: the reset value of each register as the model writes it, and STATUS from O9. -/
theorem resetValues : Obligations.ResetValues :=
  ⟨rfl, rfl, rfl, rfl, rfl, rfl, rfl, rfl, rfl, rfl, rfl, rfl, rfl, rfl, rfl, rfl, rfl, rfl, statusLayout.1⟩

/-- Settles O14: the state after reset is what a reset edge leaves of it. -/
theorem invAtReset : Obligations.InvAtReset := resetEngine_inv [] State.reset

/-- Some number of edges leads from s to t. -/
def Reaches (s t : State) : Prop := ∃ k, core.run k s = .next t

theorem Reaches.trans {s t u : State} : Reaches s t → Reaches t u → Reaches s u
  | ⟨j, hj⟩, ⟨k, hk⟩ => ⟨j + k, (run_add_of_next j k hj).trans hk⟩

/-- The edges of the first of the presented commands are its step between commands (R237). -/
theorem reaches_of_command {c : Word32} {d : Block} {s t : State} (later : List (Word32 × Block)) (hBusy : s.busy = false)
    (h : command c d s = .next t) :
    Reaches { s with host := presented ((c, d) :: later) } { t with host := presented later } := by
  have hAccept : step { s with host := presented ((c, d) :: later) } = accept c d { s with host := presented later } :=
    step_of_accept hBusy rfl
  have hCommand := command_withHost h (presented later)
  obtain hOne | hLonger := le_or_gt (latency (sample c d { s with host := presented later })) 1
  · exact ⟨1, (core_run_one _).trans (hAccept.trans ((accept_of_latency_le hOne).trans hCommand))⟩
  · obtain ⟨w, hw⟩ := Nat.exists_eq_add_one.mpr (Nat.sub_pos_of_lt hLonger)
    rw [accept_of_lt_latency hLonger, hw] at hAccept
    have hRest := run_executing (s := { s with host := presented later }) rfl c d w
    exact ⟨w + 1 + 1, (run_succ_of_next (w + 1) hAccept).trans (hRest.trans hCommand)⟩

/-- The edges lead to where the commands lead, by induction on the commands. -/
theorem reaches_of_runCommands {cmds : List (Word32 × Block)} {s u : State} {seen : List Observation} (hBusy : s.busy = false)
    (hHost : s.host = []) (h : runCommands cmds s = some (u, seen)) : Reaches { s with host := presented cmds } u := by
  induction cmds generalizing s seen with
  | nil =>
    cases h
    have hSame : { u with host := presented [] } = u := by rw [presented, List.map_nil, ← hHost]
    exact ⟨0, congrArg Host.Outcome.next hSame⟩
  | cons p later ih =>
    obtain ⟨t, rest, hCommand, hRest, -⟩ := runCommands_cons_eq_some h
    obtain ⟨hBusy', hHost'⟩ := command_handshake hCommand
    exact (reaches_of_command later hBusy hCommand).trans (ih hBusy' (hHost'.trans hHost) hRest)

/-- A state between commands, with these still to be presented, at which the host reads o. -/
def ReadyShowing (later : List (Word32 × Block)) (o : Observation) (t : State) : Prop :=
  t.host = presented later ∧ t.busy = false ∧ t.dout = o.1 ∧ status t = o.2

/-- The edges pass a point after each command at which the host reads its observation, by induction on the commands. -/
theorem reaches_readyShowing {cmds : List (Word32 × Block)} {s u : State} {seen : List Observation} (hBusy : s.busy = false)
    (h : runCommands cmds s = some (u, seen)) {j : Nat} {o : Observation} (ho : seen[j]? = some o) :
    ∃ t, Reaches { s with host := presented cmds } t ∧ ReadyShowing (cmds.drop (j + 1)) o t := by
  induction cmds generalizing s seen j with
  | nil =>
    cases h
    cases ho
  | cons p later ih =>
    obtain ⟨t, rest, hCommand, hRest, rfl⟩ := runCommands_cons_eq_some h
    obtain ⟨hBusy', -⟩ := command_handshake hCommand
    have hFirst := reaches_of_command later hBusy hCommand
    cases j with
    | zero =>
      cases ho
      exact ⟨_, hFirst, rfl, hBusy', rfl, rfl⟩
    | succ j =>
      obtain ⟨v, hReaches, hShows⟩ := ih hBusy' hRest ho
      exact ⟨v, hFirst.trans hReaches, hShows⟩

/-- Settles O12: the edges of each presented command are its step between commands, so those of all lead to where the run leads
and pass every observation. -/
theorem edgesRefineCommands : Obligations.EdgesRefineCommands := by
  intro cmds s u seen hBusy hHost h
  refine ⟨reaches_of_runCommands hBusy hHost h, length_of_runCommands h, fun j o ho => ?_⟩
  obtain ⟨t, ⟨k, hRun⟩, hShows⟩ := reaches_readyShowing hBusy h ho
  exact ⟨k, t, hRun, hShows⟩

end Sys2Proof.Laws
end
